-- ==== Sys2Proof/Word.lean ====
section
/-! DEFINITION. The widths of CKC32 (rules R6, R8, R70 of spec/): the 32-bit word of `state`, `seed`, `mask`,
`rem`, the 4-bit opcode, the 68-bit command word and the 3-bit phase code. The arithmetic on words is in
Machine/Prim.lean. -/

namespace Sys2Proof

/-- A value of `state`, `seed`, `mask`, `rem`, or an operand field of a command (R6: `W` = `LEN_W` = 32). -/
abbrev Word := BitVec 32

/-- The opcode field of a command word (R6: `OP_W` = 4). -/
abbrev Opcode := BitVec 4

/-- The command word `cmd[67:0]` (R70). -/
abbrev CmdWord := BitVec 68

/-- The 3-bit code of the phase register (R27). -/
abbrev PhaseCode := BitVec 3

end Sys2Proof
end

