-- ==== Sys2Proof/Config.lean ====
section
/-! DEFINITION. The build-time parameters of an instance (R6, R7 of spec/00_scope.md; decision D13 of
spec/92_eei_decisions.md). `W` = 32, `LEN_W` = 32 and `OP_W` = 4 are the widths of Word.lean; `GUARD_T` is fixed. -/

namespace Sys2Proof

/-- The parameter record of R6: the values an instance is built with, never written afterwards. -/
structure Params where
  /-- `MASK_DEFAULT`: the mask of `INITD`, `INITSD` and of reset. -/
  maskDefault : Word
  /-- `ROT`: left-rotate distance of the extractor. -/
  rot : Nat
  /-- `GUARD_K`: constant added with `mask` by the guard. -/
  guardK : Word
  /-- `STATE_FALLBACK`: value forced when the guard's sum is 0. -/
  stateFallback : Word
  /-- `SEED_FALLBACK`: value that replaces a zero seed. -/
  seedFallback : Word
  /-- `DISCARD_LIMIT`: the valve fires when the discard count exceeds it. -/
  discardLimit : Nat
  /-- `CNT_W`: width of the discard counter. -/
  cntW : Nat
deriving DecidableEq, Repr

/-- The "value" column of R6. -/
def Params.standard : Params where
  maskDefault := 0xA5A5A5A5#32
  rot := 5
  guardK := 137#32
  stateFallback := 0x00003039#32
  seedFallback := 0x00003039#32
  discardLimit := 1000
  cntW := 10

/-- `GUARD_T` (R6, fixed): the guard fires when the transition result is at most this. -/
def Config.guardT : Word := 1#32

end Sys2Proof
end

