-- ==== Sys2Proof/Syntax.lean ====
section
/-! DEFINITION. The instructions of CKC32: one constructor for each row of spec/opcode_table.json. The command
rows (R73) carry both operand fields `A`, `B` of the command word (R70), the ignored ones too, so that no bit of a
word is lost in decoding; R78 says the ignored ones have no effect. The phase rows (R80) and the reset pin (R230)
carry none. -/

namespace Sys2Proof

/-- One constructor per row of the opcode table. -/
inductive Instr where
  /-- `INIT seed, mask` (0x4; R186): unsigned seed, mask given. -/
  | init (seed mask : Word)
  /-- `INITD seed` (0x5; R187): unsigned seed, default mask; the second field is `B`, ignored. -/
  | initd (seed ignored : Word)
  /-- `INITS seed, mask` (0x6; R188): two's-complement seed, mask given. -/
  | inits (seed mask : Word)
  /-- `INITSD seed` (0x7; R189): two's-complement seed, default mask; `B` ignored. -/
  | initsd (seed ignored : Word)
  /-- `GEN length` (0x8; R153): request a keystream; `B` ignored. -/
  | gen (length ignored : Word)
  /-- Reserved opcode 0x0 (R74, R201); both fields ignored. -/
  | reserved0 (a b : Word)
  /-- Reserved opcode 0x1 (R74, R201); both fields ignored. -/
  | reserved1 (a b : Word)
  /-- Reserved opcode 0x2 (R74, R201); both fields ignored. -/
  | reserved2 (a b : Word)
  /-- Reserved opcode 0x3 (R74, R201); both fields ignored. -/
  | reserved3 (a b : Word)
  /-- Reserved opcode 0x9 (R74, R201); both fields ignored. -/
  | reserved9 (a b : Word)
  /-- Reserved opcode 0xA (R74, R201); both fields ignored. -/
  | reservedA (a b : Word)
  /-- Reserved opcode 0xB (R74, R201); both fields ignored. -/
  | reservedB (a b : Word)
  /-- Reserved opcode 0xC (R74, R201); both fields ignored. -/
  | reservedC (a b : Word)
  /-- Reserved opcode 0xD (R74, R201); both fields ignored. -/
  | reservedD (a b : Word)
  /-- Reserved opcode 0xE (R74, R201); both fields ignored. -/
  | reservedE (a b : Word)
  /-- Reserved opcode 0xF (R74, R201); both fields ignored. -/
  | reservedF (a b : Word)
  /-- Phase 0 (R158): wait for a command or execute the one offered. -/
  | phaseIdle
  /-- Phase 1 (R131): one stepper step, latch `b1`. -/
  | draw1
  /-- Phase 2 (R132): one stepper step, judge the pair. -/
  | draw2
  /-- Phase 3 (R138): the safety-valve perturbation. -/
  | valve
  /-- Phase 4 (R156, R157): offer or transfer one keystream bit. -/
  | emit
  /-- Phase code 5 (R27): never written; behaves as `HALT`. -/
  | phaseUnreachable5
  /-- Phase code 6 (R27): never written; behaves as `HALT`. -/
  | phaseUnreachable6
  /-- Phase 7 (R159): faulted, no change until reset. -/
  | halt
  /-- The reset transition of the pin `rst` (R230). -/
  | reset
deriving DecidableEq, Repr

end Sys2Proof
end

