-- ==== Sys2Proof/Machine/State.lean ====
section
/-! DEFINITION. The state of one instance (R20 of spec/10_state.md), the inputs of a tick (R52, R54 of
spec/20_memory.md), the block's faults (R200, R217 of spec/60_exceptions.md) and the state after reset (R230 of
spec/70_reset_and_hazards.md). There is no memory (R50). -/

namespace Sys2Proof.Machine

/-- The phase register's eight values (R27). The rules write six of them; `unreachable5` and `unreachable6` are the
codes 5 and 6, kept because the opcode table gives them a row each (log 6). -/
inductive Phase where
  /-- 0: waiting for a command. -/
  | idle
  /-- 1: the next transition draws the first bit of a pair. -/
  | draw1
  /-- 2: the next transition draws the second bit and judges the pair. -/
  | draw2
  /-- 3: the next transition applies the safety valve. -/
  | valve
  /-- 4: a balanced bit is on offer. -/
  | emit
  /-- 5: never written; behaves as `halt`. -/
  | unreachable5
  /-- 6: never written; behaves as `halt`. -/
  | unreachable6
  /-- 7: a fault was recorded; nothing happens until reset. -/
  | halt
deriving DecidableEq, Repr

/-- What the host drives on the input ports at one tick (R52). -/
structure TickIn where
  /-- `rst`. -/
  rst : Bool
  /-- `cmd_valid`. -/
  cmdValid : Bool
  /-- `cmd[67:0]`. -/
  cmd : CmdWord
  /-- `ks_ready`. -/
  ksReady : Bool
deriving DecidableEq, Repr

/-- A host that asserts nothing. -/
def TickIn.quiet : TickIn where
  rst := false
  cmdValid := false
  cmd := 0#68
  ksReady := false

/-- One instance: its parameters, the twelve registers of R20, and the host's side of its channels. A one-bit
register is a `Bool`, `true` for 1. -/
structure State where
  /-- The parameters the instance was built with (R6, R33); no step writes them (log 4). -/
  cfg : Params
  /-- `state` (R21). -/
  state : Word
  /-- `seed` (R23). -/
  seed : Word
  /-- `mask` (R24). -/
  mask : Word
  /-- `cnt`, the discard counter (R25); a natural number, as D11 allows (log 5). -/
  cnt : Nat
  /-- `rem`, the bits still to be transferred (R26). -/
  rem : Word
  /-- `b1`, the first raw bit of the pair (R26). -/
  b1 : Bool
  /-- `out`, the bit on offer (R28). -/
  out : Bool
  /-- `phase` (R27). -/
  phase : Phase
  /-- `inited` (R29). -/
  inited : Bool
  /-- `seed_subst` (R30). -/
  seedSubst : Bool
  /-- `fcause` (R31). -/
  fcause : BitVec 2
  /-- `fop` (R31). -/
  fop : BitVec 4
  /-- MODEL's own: what the host drives at this tick and the coming ones, this tick's first (log 1). -/
  inputs : List TickIn
  /-- MODEL's own: the keystream bits the host has taken, oldest first (log 3). -/
  sent : List Bool
deriving DecidableEq, Repr

/-- R217: the block's faults. Both are transitions the spec describes (R204), so a meaning that raises one answers a
NEXT state that records it in `fcause` and `fop`: no meaning and no step answers `Host.Outcome.fault`
(safe: log 8). -/
inductive Fault where
  /-- `F_RESERVED_OP` (R201), raised by the eleven reserved opcodes. Safe: it is a next state in `HALT`. -/
  | reservedOp (op : Opcode)
  /-- `F_GEN_BEFORE_INIT` (R202), raised by `GEN` with `inited` = 0. Safe: it is a next state in `HALT`. -/
  | genBeforeInit
deriving DecidableEq, Repr

/-- Why a step has no meaning. R217: "There are no refusals inside the block". -/
inductive Refusal where
  /-- An instruction of the opcode table that is not modelled. Raised by nobody: every arm of `exec` has its
  meaning. Safe. -/
  | notModelled (mnemonic : String)
deriving DecidableEq, Repr

/-- What a meaning answers. -/
abbrev Result := Host.Outcome State Fault Refusal

/-- The state right after reset (R230, R37): the registers as the spec says, the instance built with the default
parameters (log 4), a host that has nothing scripted (log 2) and has taken no bit (log 3). -/
def State.reset : State where
  cfg := Params.standard
  state := 0x00003039#32
  seed := 0x00003039#32
  mask := 0xA5A5A5A5#32
  cnt := 0
  rem := 0#32
  b1 := false
  out := false
  phase := .idle
  inited := false
  seedSubst := false
  fcause := 0#2
  fop := 0#4
  inputs := []
  sent := []

end Sys2Proof.Machine
end

