-- ==== Sys2Proof/Machine/Flags.lean ====
section
/-! DEFINITION. The flags and the output ports, functions of the registers (R30, R32 of spec/10_state.md, R52, R56,
R58, R59 of spec/20_memory.md). -/

namespace Sys2Proof.Machine

/-- What `seed_subst` becomes in an `INIT*`: was the zero candidate replaced (R30, R185). -/
def substFlag (cand : Word) : Bool := decide (cand = 0#32)

/-- `BUSY`: `phase` is `DRAW1`, `DRAW2`, `VALVE` or `EMIT` (R32). -/
def Phase.busy : Phase → Bool
  | .idle => false
  | .draw1 => true
  | .draw2 => true
  | .valve => true
  | .emit => true
  | .unreachable5 => false
  | .unreachable6 => false
  | .halt => false

/-- `FAULT`: `phase = HALT` (R32). The codes 5 and 6 behave as in `HALT` (R27; DESIGN CHOICE for the output,
log 7). -/
def Phase.faulted : Phase → Bool
  | .idle => false
  | .draw1 => false
  | .draw2 => false
  | .valve => false
  | .emit => false
  | .unreachable5 => true
  | .unreachable6 => true
  | .halt => true

/-- The word on the output port `status` (R32): `FOP` in 11:8, `FCAUSE` in 5:4, `FAULT`, `SEED_SUBST`, `INITED`,
`BUSY` in 3 to 0, the others hardwired 0. -/
def status (s : State) : BitVec 16 :=
  0#4 ++ s.fop ++ 0#2 ++ s.fcause ++ BitVec.ofBool s.phase.faulted ++ BitVec.ofBool s.seedSubst
    ++ BitVec.ofBool s.inited ++ BitVec.ofBool s.phase.busy

/-- `cmd_ready` (R52, R56). -/
def cmdReady (s : State) : Bool := decide (s.phase = .idle)

/-- `ks_valid` (R52, R58). -/
def ksValid (s : State) : Bool := decide (s.phase = .emit)

/-- `ks_bit` (R52): it shows `out` always; the host may use it only while `ks_valid` = 1 (R28). -/
def ksBit (s : State) : Bool := s.out

/-- `ks_last` (R52, R59). -/
def ksLast (s : State) : Bool := decide (s.phase = .emit) && decide (s.rem = 1#32)

/-- The values on all the output ports (R52). -/
structure Outputs where
  /-- `cmd_ready`. -/
  cmdReady : Bool
  /-- `ks_valid`. -/
  ksValid : Bool
  /-- `ks_bit`. -/
  ksBit : Bool
  /-- `ks_last`. -/
  ksLast : Bool
  /-- `status`. -/
  status : BitVec 16
deriving DecidableEq, Repr

/-- The outputs of a state (R52): functions of registers only. -/
def outputs (s : State) : Outputs where
  cmdReady := cmdReady s
  ksValid := ksValid s
  ksBit := ksBit s
  ksLast := ksLast s
  status := status s

/-- What the host drives at this tick; a host with nothing left scripted drives nothing (log 2). -/
def State.pins (s : State) : TickIn := s.inputs.headD TickIn.quiet

/-- A command transfer happens at this tick (R56). -/
def commandTransfer (s : State) : Bool := !s.pins.rst && s.pins.cmdValid && cmdReady s

/-- A bit transfer happens at this tick (R58). -/
def bitTransfer (s : State) : Bool := !s.pins.rst && ksValid s && s.pins.ksReady

end Sys2Proof.Machine
end

