-- ==== Sys2Proof/Machine/Prim.lean ====
section
/-! DEFINITION. The pseudocode primitives of R9 (spec/00_scope.md), each a total function on the stated widths. -/

namespace Sys2Proof.Machine

/-- `add32(a, b)`: `(a + b) mod 2^32`. -/
def add32 (a b : Word) : Word := a + b

/-- `shr1(a)`: `floor(a / 2)`. -/
def shr1 (a : Word) : Word := a >>> 1

/-- `tpo32(a)`: `(3*a + 1) mod 2^32`. -/
def tpo32 (a : Word) : Word := 3#32 * a + 1#32

/-- `xor32(a, b)`. -/
def xor32 (a b : Word) : Word := a ^^^ b

/-- `rotl32(a, k)`, `0 < k < 32`: `((a * 2^k) mod 2^32) + floor(a / 2^(32-k))`. -/
def rotl32 (a : Word) (k : Nat) : Word := (a <<< k) + (a >>> (32 - k))

/-- `zext_32(v)` of the counter's value: the same number, in 32 bits. -/
def zext32 (n : Nat) : Word := BitVec.ofNat 32 n

/-- `abs32(a)`: the magnitude of `a` read as two's complement. -/
def abs32 (a : Word) : Word := if a.getLsbD 31 then 0#32 - a else a

end Sys2Proof.Machine
end

