-- ==== Sys2Proof/Machine/Operands.lean ====
section
/-! DEFINITION. Operand assembly: how a command's fields become a seed and a mask (R75 to R77 of
spec/30_encoding.md, R181 to R183 of spec/44_construct.md). The length operand of `GEN` is the field `A` as it is
(R77). -/

namespace Sys2Proof.Machine

/-- The seed candidate of the unsigned forms, `s = 0` (R75, R182). -/
def seedUnsigned (a : Word) : Word := a

/-- The seed candidate of the signed forms, `s = 1` (R75, R182). -/
def seedSigned (a : Word) : Word := abs32 a

/-- R183: a zero candidate is replaced by `SEED_FALLBACK`. -/
def normSeed (p : Params) (cand : Word) : Word := if cand = 0#32 then p.seedFallback else cand

/-- The mask of the forms with `d = 0` (R76, R181). -/
def maskGiven (b : Word) : Word := b

/-- The mask of the forms with `d = 1` (R76, R181). -/
def maskDefault (p : Params) : Word := p.maskDefault

end Sys2Proof.Machine
end

