-- ==== Sys2Proof/Machine/Ops.lean ====
section
/-! DEFINITION. The named operations on the registers, each the register writes of one transition of the spec. All
right-hand sides read the values before the transition (R9). A fault's entry (`raise`, R204) and the only way back
from one (`resetRegs`, R206, R230) stand here. -/

namespace Sys2Proof.Machine

/-- `fcause` of a fault (R200). -/
def Fault.cause : Fault → BitVec 2
  | .reservedOp _ => 1#2
  | .genBeforeInit => 2#2

/-- `fop` of a fault (R200): the opcode field of the faulting command. -/
def Fault.op : Fault → Opcode
  | .reservedOp op => op
  | .genBeforeInit => 0b1000#4

/-- Fault entry (R204): `fcause`, `fop` and `phase` are written, nothing else. -/
def raise (f : Fault) (s : State) : State := { s with fcause := f.cause, fop := f.op, phase := .halt }

/-- The reset transition (R230), the only return from a fault (R206). The parameters are the instance's own, the
host's coming inputs are its own, and bits already taken stay taken (R233). -/
def resetRegs (s : State) : State :=
  { s with
    state := s.cfg.seedFallback
    seed := s.cfg.seedFallback
    mask := s.cfg.maskDefault
    cnt := 0
    rem := 0#32
    b1 := false
    out := false
    phase := .idle
    inited := false
    seedSubst := false
    fcause := 0#2
    fop := 0#4 }

/-- The register writes common to the four `INIT*` commands (R184), from the seed candidate and the mask. -/
def construct (cand mask : Word) (s : State) : State :=
  { s with
    seed := normSeed s.cfg cand
    state := normSeed s.cfg cand
    mask := mask
    inited := true
    seedSubst := substFlag cand
    phase := .idle }

/-- The register writes of a `GEN` that does not fault (R153). -/
def reload (length : Word) (s : State) : State :=
  { s with
    state := s.seed
    cnt := 0
    rem := length
    phase := if length = 0#32 then .idle else .draw1 }

/-- The register writes of `DRAW1` (R131), from the step's new state and raw bit. -/
def latchFirst (g : Word) (raw : Bool) (s : State) : State :=
  { s with state := g, b1 := raw, phase := .draw2 }

/-- The register writes of an accepting `DRAW2` (R132, R133). -/
def acceptPair (g : Word) (s : State) : State :=
  { s with state := g, out := s.b1, cnt := 0, phase := .emit }

/-- The register writes of a discarding `DRAW2` (R132, R134): the new count is compared, strictly (R139). -/
def discardPair (g : Word) (s : State) : State :=
  { s with
    state := g
    cnt := s.cnt + 1
    phase := if s.cnt + 1 > s.cfg.discardLimit then .valve else .draw1 }

/-- The register writes of `VALVE` (R138): the sum does not pass through the guard. -/
def fireValve (s : State) : State :=
  { s with state := add32 s.state (zext32 s.cnt), cnt := 0, phase := .draw1 }

/-- A bit transfer (R157): the host takes `out`, `rem` is decremented, `rem` before the decrement decides the next
phase. -/
def transferBit (s : State) : State :=
  { s with
    rem := s.rem - 1#32
    phase := if s.rem = 1#32 then .idle else .draw1
    sent := s.sent ++ [s.out] }

/-- The tick is over: the host's inputs of this tick are spent (R54, log 1). -/
def tickPassed (s : State) : State := { s with inputs := s.inputs.tail }

end Sys2Proof.Machine
end

