-- ==== Sys2Proof/Machine/Stepper.lean ====
section
/-! DEFINITION. The Collatz stepper (R100 to R107 of spec/40_collatz_stepper.md) and the bit extractor (R120 to R122
of spec/41_bit_extractor.md): pure functions, the common body of `DRAW1` and `DRAW2`. -/

namespace Sys2Proof.Machine

/-- R101 to R103: halve an even state, `3*state + 1` modulo 2^32 of an odd one. -/
def collatz (s : Word) : Word := if s.getLsbD 0 then tpo32 s else shr1 s

/-- The guard's sum `p` of R104. -/
def guardSum (p : Params) (t mask : Word) : Word := add32 (add32 t mask) p.guardK

/-- R104 to R106: a result of 0 or 1 is perturbed, a sum of exactly 0 replaced. -/
def collatzGuard (p : Params) (t mask : Word) : Word :=
  if t ≤ Config.guardT then
    if guardSum p t mask = 0#32 then p.stateFallback else guardSum p t mask
  else t

/-- R120 to R122: bit 0 of the masked state rotated left by `ROT`. -/
def extract (p : Params) (g mask : Word) : Bool := (rotl32 (xor32 g mask) p.rot).getLsbD 0

/-- R100: the new state and the raw bit of one step. -/
def stepperStep (p : Params) (s mask : Word) : Word × Bool :=
  (collatzGuard p (collatz s) mask, extract p (collatzGuard p (collatz s) mask) mask)

end Sys2Proof.Machine
end

