-- ==== Sys2Proof/Machine/Debiaser.lean ====
section
/-! DEFINITION. The Von Neumann debiaser's micro-operations (R131, R132, R138 of spec/42_debiaser.md). -/

namespace Sys2Proof.Machine

/-- `DRAW1` (R131). -/
def execDraw1 (s : State) : Result :=
  .next (latchFirst (stepperStep s.cfg s.state s.mask).1 (stepperStep s.cfg s.state s.mask).2 s)

/-- `DRAW2` (R132): the second raw bit `b2` is not stored. -/
def execDraw2 (s : State) : Result :=
  if s.b1 ≠ (stepperStep s.cfg s.state s.mask).2 then
    .next (acceptPair (stepperStep s.cfg s.state s.mask).1 s)
  else .next (discardPair (stepperStep s.cfg s.state s.mask).1 s)

/-- `VALVE` (R138). -/
def execValve (s : State) : Result := .next (fireValve s)

end Sys2Proof.Machine
end

