-- ==== Sys2Proof/Decode.lean ====
section
/-! DEFINITION. Decoding and encoding (spec/30_encoding.md, rules R70 to R80, and the pin of R230). An instruction
is selected in one of three places: a command word, the phase register, or the reset pin; `Code` says which, and
its bits. -/

namespace Sys2Proof

/-- Where the bits that select an instruction stand. -/
inductive Code where
  /-- A command word on `cmd[67:0]` (R70). -/
  | command (w : CmdWord)
  /-- The phase register (R80). -/
  | phase (c : PhaseCode)
  /-- The pin `rst` (R230). -/
  | pin (rst : Bool)
deriving DecidableEq, Repr

/-- Why bits select no instruction. -/
inductive DecodeReject where
  /-- The pin `rst` is 0: it selects nothing; the phase register does (R150). -/
  | resetNotAsserted
  /-- The number has a bit above the top bit of the word, register or pin it is read as. -/
  | bitsBeyondTop
  /-- No instruction has this many bits: a pin has 1, a phase code 3, a command word 68. -/
  | noSuchWidth
deriving DecidableEq, Repr

/-- `op = cmd[67:64]` (R70). -/
def cmdOp (w : CmdWord) : Opcode := w.extractLsb' 64 4

/-- `A = cmd[63:32]` (R70). -/
def cmdA (w : CmdWord) : Word := w.extractLsb' 32 32

/-- `B = cmd[31:0]` (R70). -/
def cmdB (w : CmdWord) : Word := w.extractLsb' 0 32

/-- R70: `cmd = op ++ A ++ B`. -/
def packCmd (op : Opcode) (a b : Word) : CmdWord := op ++ a ++ b

/-- R72, R73: decoding is a function of `op` alone, total on all words. -/
def decodeCmd (w : CmdWord) : Instr :=
  match (cmdOp w).getLsbD 3, (cmdOp w).getLsbD 2, (cmdOp w).getLsbD 1, (cmdOp w).getLsbD 0 with
  | false, false, false, false => .reserved0 (cmdA w) (cmdB w)
  | false, false, false, true => .reserved1 (cmdA w) (cmdB w)
  | false, false, true, false => .reserved2 (cmdA w) (cmdB w)
  | false, false, true, true => .reserved3 (cmdA w) (cmdB w)
  | false, true, false, false => .init (cmdA w) (cmdB w)
  | false, true, false, true => .initd (cmdA w) (cmdB w)
  | false, true, true, false => .inits (cmdA w) (cmdB w)
  | false, true, true, true => .initsd (cmdA w) (cmdB w)
  | true, false, false, false => .gen (cmdA w) (cmdB w)
  | true, false, false, true => .reserved9 (cmdA w) (cmdB w)
  | true, false, true, false => .reservedA (cmdA w) (cmdB w)
  | true, false, true, true => .reservedB (cmdA w) (cmdB w)
  | true, true, false, false => .reservedC (cmdA w) (cmdB w)
  | true, true, false, true => .reservedD (cmdA w) (cmdB w)
  | true, true, true, false => .reservedE (cmdA w) (cmdB w)
  | true, true, true, true => .reservedF (cmdA w) (cmdB w)

/-- R80: the micro-operation a value of the phase register selects. -/
def decodePhase (c : PhaseCode) : Instr :=
  match c.getLsbD 2, c.getLsbD 1, c.getLsbD 0 with
  | false, false, false => .phaseIdle
  | false, false, true => .draw1
  | false, true, false => .draw2
  | false, true, true => .valve
  | true, false, false => .emit
  | true, false, true => .phaseUnreachable5
  | true, true, false => .phaseUnreachable6
  | true, true, true => .halt

/-- The instruction the bits select, or why they select none. -/
def decode : Code → Except DecodeReject Instr
  | .command w => .ok (decodeCmd w)
  | .phase c => .ok (decodePhase c)
  | .pin true => .ok .reset
  | .pin false => .error .resetNotAsserted

/-- The bits that select an instruction (R70, R73, R80, R230). -/
def encode : Instr → Code
  | .reserved0 a b => .command (packCmd 0#4 a b)
  | .reserved1 a b => .command (packCmd 1#4 a b)
  | .reserved2 a b => .command (packCmd 2#4 a b)
  | .reserved3 a b => .command (packCmd 3#4 a b)
  | .init a b => .command (packCmd 4#4 a b)
  | .initd a b => .command (packCmd 5#4 a b)
  | .inits a b => .command (packCmd 6#4 a b)
  | .initsd a b => .command (packCmd 7#4 a b)
  | .gen a b => .command (packCmd 8#4 a b)
  | .reserved9 a b => .command (packCmd 9#4 a b)
  | .reservedA a b => .command (packCmd 10#4 a b)
  | .reservedB a b => .command (packCmd 11#4 a b)
  | .reservedC a b => .command (packCmd 12#4 a b)
  | .reservedD a b => .command (packCmd 13#4 a b)
  | .reservedE a b => .command (packCmd 14#4 a b)
  | .reservedF a b => .command (packCmd 15#4 a b)
  | .phaseIdle => .phase 0#3
  | .draw1 => .phase 1#3
  | .draw2 => .phase 2#3
  | .valve => .phase 3#3
  | .emit => .phase 4#3
  | .phaseUnreachable5 => .phase 5#3
  | .phaseUnreachable6 => .phase 6#3
  | .halt => .phase 7#3
  | .reset => .pin true

/-- How many bits the code has. -/
def Code.width : Code → Nat
  | .command _ => 68
  | .phase _ => 3
  | .pin _ => 1

/-- The code as a number, bit 0 least significant. -/
def Code.number : Code → Nat
  | .command w => w.toNat
  | .phase c => c.toNat
  | .pin rst => rst.toNat

/-- The code that `nbits` bits with the value `w` are. One bit is the reset pin; 2 to 8 bits (the phase code's 3,
or the byte that holds them) are the phase register; 9 to 72 bits (the command's 68, or the nine bytes that hold
them) are a command word. In a byte, the reset pin's row and `DRAW1`'s row have the same bits: a byte is read as
the phase register (log 9). -/
def codeOfBits (nbits w : Nat) : Except DecodeReject Code :=
  if nbits = 1 then
    if w < 2 then .ok (.pin (decide (w = 1))) else .error .bitsBeyondTop
  else if 2 ≤ nbits ∧ nbits ≤ 8 then
    if w < 8 then .ok (.phase (BitVec.ofNat 3 w)) else .error .bitsBeyondTop
  else if 9 ≤ nbits ∧ nbits ≤ 72 then
    if w < 2 ^ 68 then .ok (.command (BitVec.ofNat 68 w)) else .error .bitsBeyondTop
  else .error .noSuchWidth

/-- The instruction read from `nbits` bits numbered as spec/opcode_table.json numbers them. -/
def decodeTableWord (nbits w : Nat) : Option Instr :=
  match codeOfBits nbits w with
  | .error _ => none
  | .ok c =>
    match decode c with
    | .error _ => none
    | .ok i => some i

end Sys2Proof
end

