-- ==== Sys2Proof/Machine/Construct.lean ====
section
/-! DEFINITION. The four construction commands (R186 to R189 of spec/44_construct.md). None of them can fault
(R180). -/

namespace Sys2Proof.Machine

/-- `INIT seed, mask` (R186): `s = 0`, `d = 0`. -/
def execInit (a b : Word) (s : State) : Result := .next (construct (seedUnsigned a) (maskGiven b) s)

/-- `INITD seed` (R187): `s = 0`, `d = 1`; `B` ignored. -/
def execInitd (a : Word) (s : State) : Result := .next (construct (seedUnsigned a) (maskDefault s.cfg) s)

/-- `INITS seed, mask` (R188): `s = 1`, `d = 0`. -/
def execInits (a b : Word) (s : State) : Result := .next (construct (seedSigned a) (maskGiven b) s)

/-- `INITSD seed` (R189): `s = 1`, `d = 1`; `B` ignored. -/
def execInitsd (a : Word) (s : State) : Result := .next (construct (seedSigned a) (maskDefault s.cfg) s)

end Sys2Proof.Machine
end

