-- ==== Sys2Proof/Machine/Keystream.lean ====
section
/-! DEFINITION. The keystream request and the delivery of a bit (R152 to R157 of spec/43_keystream_generator.md). -/

namespace Sys2Proof.Machine

/-- `GEN length` (R153): faults before any `INIT*` (R202), whatever the length; else reloads and starts. `B`
ignored. -/
def execGen (length : Word) (s : State) : Result :=
  if s.inited then .next (reload length s) else .next (raise .genBeforeInit s)

/-- `EMIT`: no change while the host is not ready (R156), else the transfer (R157). -/
def execEmit (s : State) : Result := if s.pins.ksReady then .next (transferBit s) else .next s

end Sys2Proof.Machine
end

