-- ==== Sys2Proof/Machine/Reserved.lean ====
section
/-! DEFINITION. The eleven reserved opcodes (R74 of spec/30_encoding.md, R201 of spec/60_exceptions.md): each takes
the fault `F_RESERVED_OP` with its opcode recorded; both operand fields are ignored (R78). -/

namespace Sys2Proof.Machine

/-- What a reserved opcode does (R201, R204). -/
def takeReserved (op : Opcode) (s : State) : Result := .next (raise (.reservedOp op) s)

/-- Opcode 0x0 (R73, R201). -/
def execReserved0 (s : State) : Result := takeReserved 0x0#4 s

/-- Opcode 0x1 (R73, R201). -/
def execReserved1 (s : State) : Result := takeReserved 0x1#4 s

/-- Opcode 0x2 (R73, R201). -/
def execReserved2 (s : State) : Result := takeReserved 0x2#4 s

/-- Opcode 0x3 (R73, R201). -/
def execReserved3 (s : State) : Result := takeReserved 0x3#4 s

/-- Opcode 0x9 (R73, R201). -/
def execReserved9 (s : State) : Result := takeReserved 0x9#4 s

/-- Opcode 0xA (R73, R201). -/
def execReservedA (s : State) : Result := takeReserved 0xA#4 s

/-- Opcode 0xB (R73, R201). -/
def execReservedB (s : State) : Result := takeReserved 0xB#4 s

/-- Opcode 0xC (R73, R201). -/
def execReservedC (s : State) : Result := takeReserved 0xC#4 s

/-- Opcode 0xD (R73, R201). -/
def execReservedD (s : State) : Result := takeReserved 0xD#4 s

/-- Opcode 0xE (R73, R201). -/
def execReservedE (s : State) : Result := takeReserved 0xE#4 s

/-- Opcode 0xF (R73, R201). -/
def execReservedF (s : State) : Result := takeReserved 0xF#4 s

end Sys2Proof.Machine
end

