-- ==== Sys2Proof/Machine/Sequencer.lean ====
section
/-! DEFINITION. The idle and halted phases and the reset transition (R158, R159 of spec/43_keystream_generator.md,
R27 of spec/10_state.md, R230 of spec/70_reset_and_hazards.md). -/

namespace Sys2Proof.Machine

/-- Execution of a command word, by the cases of R72. -/
def execCommand (w : CmdWord) (s : State) : Result :=
  if cmdOp w = 0b0100#4 then execInit (cmdA w) (cmdB w) s
  else if cmdOp w = 0b0101#4 then execInitd (cmdA w) s
  else if cmdOp w = 0b0110#4 then execInits (cmdA w) (cmdB w) s
  else if cmdOp w = 0b0111#4 then execInitsd (cmdA w) s
  else if cmdOp w = 0b1000#4 then execGen (cmdA w) s
  else takeReserved (cmdOp w) s

/-- Phase `IDLE` (R158): no change without a command; the command offered is executed in this transition. -/
def execPhaseIdle (s : State) : Result :=
  if s.pins.cmdValid then execCommand s.pins.cmd s else .next s

/-- `HALT` (R159): no register changes. -/
def execHalt (s : State) : Result := .next s

/-- Phase code 5 (R27): behaves as in `HALT`. -/
def execPhaseUnreachable5 (s : State) : Result := .next s

/-- Phase code 6 (R27): behaves as in `HALT`. -/
def execPhaseUnreachable6 (s : State) : Result := .next s

/-- The reset transition (R230), whatever the phase and the other inputs. -/
def execReset (s : State) : Result := .next (resetRegs s)

end Sys2Proof.Machine
end

