-- ==== Sys2Proof/Machine/Dispatch.lean ====
section
/-! DEFINITION. The dispatch: one arm per constructor of Instr. -/

namespace Sys2Proof.Machine

def exec (i : Instr) (s : State) : Host.Outcome State Fault Refusal :=
  match i with
  | .init a b => Sys2Proof.Machine.execInit a b s
  | .initd a _ => Sys2Proof.Machine.execInitd a s
  | .inits a b => Sys2Proof.Machine.execInits a b s
  | .initsd a _ => Sys2Proof.Machine.execInitsd a s
  | .gen a _ => Sys2Proof.Machine.execGen a s
  | .reserved0 _ _ => Sys2Proof.Machine.execReserved0 s
  | .reserved1 _ _ => Sys2Proof.Machine.execReserved1 s
  | .reserved2 _ _ => Sys2Proof.Machine.execReserved2 s
  | .reserved3 _ _ => Sys2Proof.Machine.execReserved3 s
  | .reserved9 _ _ => Sys2Proof.Machine.execReserved9 s
  | .reservedA _ _ => Sys2Proof.Machine.execReservedA s
  | .reservedB _ _ => Sys2Proof.Machine.execReservedB s
  | .reservedC _ _ => Sys2Proof.Machine.execReservedC s
  | .reservedD _ _ => Sys2Proof.Machine.execReservedD s
  | .reservedE _ _ => Sys2Proof.Machine.execReservedE s
  | .reservedF _ _ => Sys2Proof.Machine.execReservedF s
  | .phaseIdle => Sys2Proof.Machine.execPhaseIdle s
  | .draw1 => Sys2Proof.Machine.execDraw1 s
  | .draw2 => Sys2Proof.Machine.execDraw2 s
  | .valve => Sys2Proof.Machine.execValve s
  | .emit => Sys2Proof.Machine.execEmit s
  | .phaseUnreachable5 => Sys2Proof.Machine.execPhaseUnreachable5 s
  | .phaseUnreachable6 => Sys2Proof.Machine.execPhaseUnreachable6 s
  | .halt => Sys2Proof.Machine.execHalt s
  | .reset => Sys2Proof.Machine.execReset s

end Sys2Proof.Machine
end

