-- ==== Sys2Proof/Machine/Fetch.lean ====
section
/-! DEFINITION. Which instruction a tick runs (R150 of spec/43_keystream_generator.md) and how a given instruction is
made the one the next tick runs. Nothing is fetched from a memory (R68). -/

namespace Sys2Proof.Machine

/-- The phase register's code (R27). -/
def Phase.code : Phase → PhaseCode
  | .idle => 0#3
  | .draw1 => 1#3
  | .draw2 => 2#3
  | .valve => 3#3
  | .emit => 4#3
  | .unreachable5 => 5#3
  | .unreachable6 => 6#3
  | .halt => 7#3

/-- The phase that has a code (R27). -/
def phaseOfCode (c : PhaseCode) : Phase :=
  match c.getLsbD 2, c.getLsbD 1, c.getLsbD 0 with
  | false, false, false => .idle
  | false, false, true => .draw1
  | false, true, false => .draw2
  | false, true, true => .valve
  | true, false, false => .emit
  | true, false, true => .unreachable5
  | true, true, false => .unreachable6
  | true, true, true => .halt

/-- The instruction this tick runs (R150): reset first, then, at a command transfer, the command, else what the
phase register selects (R80). -/
def selected (s : State) : Instr :=
  if s.pins.rst then .reset
  else if commandTransfer s then decodeCmd s.pins.cmd
  else decodePhase s.phase.code

/-- The same state with the host driving `t` at this tick. -/
def withPins (t : TickIn) (s : State) : State := { s with inputs := t :: s.inputs.tail }

/-- The state in which the next tick runs what the code selects: a command is offered in `IDLE`; a phase code is put
in the phase register and the host is ready for a bit; the pin `rst` is driven (log 10). -/
def placeCode (c : Code) (s : State) : State :=
  match c with
  | .command w =>
    withPins { TickIn.quiet with cmdValid := true, cmd := w } { s with phase := .idle }
  | .phase c => withPins { TickIn.quiet with ksReady := true } { s with phase := phaseOfCode c }
  | .pin rst => withPins { TickIn.quiet with rst := rst } s

end Sys2Proof.Machine
end

