-- ==== Sys2Proof/Machine/Step.lean ====
section
/-! DEFINITION. The step: one tick (R54 of spec/20_memory.md, R150 of spec/43_keystream_generator.md). It runs the
instruction the tick selects, and then the host's inputs of the tick are spent. -/

namespace Sys2Proof.Machine

/-- One tick. -/
def step (s : State) : Host.Outcome State Fault Refusal :=
  match exec (selected s) s with
  | .next t => .next (tickPassed t)
  | .fault r => .fault r
  | .refused r => .refused r

/-- `s` with the instruction of these bits made the one the next tick runs; `s` itself where the bits are no
code. -/
def State.withFetchWord (s : State) (nbits w : Nat) : State :=
  match codeOfBits nbits w with
  | .ok c => placeCode c s
  | .error _ => s

end Sys2Proof.Machine
end

