-- ==== Sys2Proof/Machine/Functional.lean ====
section
/-! DEFINITION. The functional (tick-free) forms of the behaviour: the trajectory of `state`, the debiaser
(R143 of spec/42_debiaser.md) and the keystream (R160 of spec/43_keystream_generator.md). The last two are partial
functions (R142); here they take fuel, the number of pairs one extraction may draw, and answer `none` where it runs
out (log 14). "Undefined" is `none` for every fuel. -/

namespace Sys2Proof.Machine

/-- The value of `state` after `n` stepper steps with no reload and no valve between them (R100). -/
def trajectory (p : Params) (mask : Word) : Nat → Word → Word
  | 0, s => s
  | n + 1, s => trajectory p mask n (stepperStep p s mask).1

/-- The raw bit of step `n` of the trajectory from `s`, counting from 0. -/
def rawBit (p : Params) (mask : Word) (n : Nat) (s : Word) : Bool :=
  (stepperStep p (trajectory p mask n s) mask).2

/-- What one balanced-bit extraction gives: the state it leaves, the bit, and how many pairs and valve firings it
took (the counts of R144). -/
structure BitResult where
  /-- The state after the accepted pair. -/
  state : Word
  /-- The balanced bit. -/
  bit : Bool
  /-- Pairs drawn, the accepted one included. -/
  pairs : Nat
  /-- Valve firings. -/
  firings : Nat
deriving DecidableEq, Repr

/-- The same extraction with one discarded pair and `firings` firings before it. -/
def BitResult.afterDiscard (firings : Nat) (r : BitResult) : BitResult :=
  { r with pairs := r.pairs + 1, firings := r.firings + firings }

/-- `nbb_loop` of R143. -/
def nbbLoop (p : Params) (mask : Word) : Nat → Word → Nat → Option BitResult
  | 0, _, _ => none
  | fuel + 1, s, cnt =>
    if (stepperStep p s mask).2 ≠ (stepperStep p (stepperStep p s mask).1 mask).2 then
      some {
        state := (stepperStep p (stepperStep p s mask).1 mask).1
        bit := (stepperStep p s mask).2
        pairs := 1
        firings := 0 }
    else if cnt + 1 > p.discardLimit then
      (nbbLoop p mask fuel
        (add32 (stepperStep p (stepperStep p s mask).1 mask).1 (zext32 (cnt + 1))) 0).map
        (BitResult.afterDiscard 1)
    else
      (nbbLoop p mask fuel (stepperStep p (stepperStep p s mask).1 mask).1 (cnt + 1)).map
        (BitResult.afterDiscard 0)

/-- `next_balanced_bit` of R143. -/
def nextBalancedBit (p : Params) (mask : Word) (fuel : Nat) (s : Word) : Option BitResult :=
  nbbLoop p mask fuel s 0

/-- What a keystream request gives: the final state, the bits in order, and the pairs and valve firings in all. -/
structure Keystream where
  /-- The state after the last extraction. -/
  state : Word
  /-- The bits, first produced first (R60). -/
  bits : List Bool
  /-- Pairs drawn in all. -/
  pairs : Nat
  /-- Valve firings in all. -/
  firings : Nat
deriving DecidableEq, Repr

/-- The request that first extracts `r` and then goes on as `k`. -/
def Keystream.after (r : BitResult) (k : Keystream) : Keystream where
  state := k.state
  bits := r.bit :: k.bits
  pairs := r.pairs + k.pairs
  firings := r.firings + k.firings

/-- `generate` of R160, started at `s` (the seed, for a request). -/
def generate (p : Params) (mask : Word) (fuel : Nat) : Nat → Word → Option Keystream
  | 0, s => some { state := s, bits := [], pairs := 0, firings := 0 }
  | n + 1, s =>
    match nextBalancedBit p mask fuel s with
    | none => none
    | some r => (generate p mask fuel n r.state).map (Keystream.after r)

end Sys2Proof.Machine
end

