-- ==== Sys2Proof/Machine/Script.lean ====
section
/-! DEFINITION. Runs of many ticks, and the command-script notation of R82, R83 (spec/30_encoding.md): the lines, the
words they stand for, the pseudo-commands, and a host that executes a script (log 15). -/

namespace Sys2Proof.Machine

/-- `n` ticks, stopping where a step stops. -/
def ticks : Nat → State → Result
  | 0, s => .next s
  | n + 1, s =>
    match step s with
    | .next t => ticks n t
    | .fault r => .fault r
    | .refused r => .refused r

/-- What the host drives `k` ticks from now. -/
def pinsAt (s : State) (k : Nat) : TickIn := s.inputs.getD k TickIn.quiet

/-- One line of a command script (R82). Numbers are as written; a seed of the signed forms may be negative. -/
inductive ScriptLine where
  /-- `INIT seed, mask`. -/
  | init (seed mask : Nat)
  /-- `INITD seed`. -/
  | initd (seed : Nat)
  /-- `INITS seed, mask`. -/
  | inits (seed : Int) (mask : Nat)
  /-- `INITSD seed`. -/
  | initsd (seed : Int)
  /-- `GEN length`. -/
  | gen (length : Nat)
  /-- `RAW word`. -/
  | raw (word : Nat)
  /-- `RESET`. -/
  | reset
deriving DecidableEq, Repr

/-- A number that a 32-bit operand field holds. Wider seeds and lengths cannot be presented (R77, R190). -/
def fitsField (n : Nat) : Bool := decide (n < 2 ^ 32)

/-- A seed that a signed form's field holds: a 32-bit number, or a negative one down to `-2^31` (R82). -/
def fitsSigned (n : Int) : Bool := decide (-(2 ^ 31) ≤ n) && decide (n < 2 ^ 32)

/-- The line can be written: its numbers fit their fields. -/
def ScriptLine.wf : ScriptLine → Bool
  | .init seed mask => fitsField seed && fitsField mask
  | .initd seed => fitsField seed
  | .inits seed mask => fitsSigned seed && fitsField mask
  | .initsd seed => fitsSigned seed
  | .gen length => fitsField length
  | .raw word => decide (word < 2 ^ 68)
  | .reset => true

/-- The line's fields put together as R82 tabulates them. The operand fields take the numbers as they are where
`ScriptLine.wf` holds; `ScriptLine.word` asks for no others. -/
def ScriptLine.fields : ScriptLine → Option CmdWord
  | .init seed mask => some (packCmd 4#4 (BitVec.ofNat 32 seed) (BitVec.ofNat 32 mask))
  | .initd seed => some (packCmd 5#4 (BitVec.ofNat 32 seed) 0#32)
  | .inits seed mask => some (packCmd 6#4 (BitVec.ofInt 32 seed) (BitVec.ofNat 32 mask))
  | .initsd seed => some (packCmd 7#4 (BitVec.ofInt 32 seed) 0#32)
  | .gen length => some (packCmd 8#4 (BitVec.ofNat 32 length) 0#32)
  | .raw word => some (BitVec.ofNat 68 word)
  | .reset => none

/-- The command word a line transfers (R82); `RESET` transfers none. Neither does a line with a number that its field
cannot hold (a seed, mask or length of 2^32 or more, a negative seed below -2^31, a raw word of 2^68 or more): R190 says
such a seed cannot be presented, and how a host reduces it the spec leaves open (N7), so the model reduces nothing
(DESIGN CHOICE, log 17). -/
def ScriptLine.word (l : ScriptLine) : Option CmdWord := if l.wf then l.fields else none

/-- The pseudo-commands of R83, named after DOC1's operations. -/
inductive Pseudo where
  /-- `CONSTRUCT seed` and `CONSTRUCT seed, mask`. -/
  | construct (seed : Int) (mask : Option Nat)
  /-- `KEYSTREAM n`. -/
  | keystream (n : Nat)
  /-- `ENCRYPT n`. -/
  | encrypt (n : Nat)
  /-- `DECRYPT n`. -/
  | decrypt (n : Nat)
deriving DecidableEq, Repr

/-- The expansion of a pseudo-command (R83). -/
def Pseudo.expand : Pseudo → ScriptLine
  | .construct seed none => if 0 ≤ seed then .initd seed.toNat else .initsd seed
  | .construct seed (some mask) => if 0 ≤ seed then .init seed.toNat mask else .inits seed mask
  | .keystream n => .gen n
  | .encrypt n => .gen n
  | .decrypt n => .gen n

/-- What a host that executes a script drives at a tick, and the lines left after it. It waits, ready for bits, while
the block is busy; it transfers a command when `cmd_ready` = 1; it holds `rst` for one tick for `RESET` (log 15). At a
line that has no word it transfers nothing, ever (DESIGN CHOICE, log 17). -/
def hostMove (lines : List ScriptLine) (s : State) : TickIn × List ScriptLine :=
  match lines with
  | [] => ({ TickIn.quiet with ksReady := true }, [])
  | l :: rest =>
    if s.phase.busy then ({ TickIn.quiet with ksReady := true }, l :: rest)
    else if l = .reset then ({ TickIn.quiet with rst := true }, rest)
    else
      match l.word with
      | none => ({ TickIn.quiet with ksReady := true }, l :: rest)
      | some w =>
        if cmdReady s then ({ TickIn.quiet with cmdValid := true, cmd := w, ksReady := true }, rest)
        else ({ TickIn.quiet with ksReady := true }, l :: rest)

/-- A `GEN` that a script has transferred, and how many of its bits the host has taken (R167). -/
structure Request where
  /-- The length it asked for. -/
  length : Nat
  /-- The bit transfers since, up to the next `GEN`. -/
  taken : Nat
deriving DecidableEq, Repr

/-- A block whose host executes a script. -/
structure ScriptRun where
  /-- The lines not yet executed. -/
  lines : List ScriptLine
  /-- The block. -/
  block : State
  /-- The `GEN`s the script has transferred, the latest first. -/
  requests : List Request
  /-- A fault was recorded in some configuration of the run so far, its first included (R205). A reset of the block
  does not clear this. -/
  everFaulted : Bool
deriving DecidableEq, Repr

/-- A fault is recorded in the configuration (R205). -/
def faultRecorded (s : State) : Bool := decide (s.fcause ≠ 0#2)

/-- The run of a script from a state, before its first tick. -/
def ScriptRun.start (lines : List ScriptLine) (s : State) : ScriptRun where
  lines := lines
  block := s
  requests := []
  everFaulted := faultRecorded s

/-- The requests after a tick at which the block is in `s`: a transferred `GEN` (`RAW` lines included; one that faults
too) is a new request; a bit transferred is the latest request's. -/
def recordTick (s : State) (requests : List Request) : List Request :=
  if commandTransfer s ∧ cmdOp s.pins.cmd = 8#4 then
    { length := (cmdA s.pins.cmd).toNat, taken := 0 } :: requests
  else if bitTransfer s then
    match requests with
    | [] => []
    | q :: rest => { q with taken := q.taken + 1 } :: rest
  else requests

/-- One tick of a block whose host executes a script. -/
def scriptTick (r : ScriptRun) : Host.Outcome ScriptRun Fault Refusal :=
  match step (withPins (hostMove r.lines r.block).1 r.block) with
  | .next t => .next {
      lines := (hostMove r.lines r.block).2
      block := t
      requests := recordTick (withPins (hostMove r.lines r.block).1 r.block) r.requests
      everFaulted := r.everFaulted || faultRecorded t }
  | .fault f => .fault f
  | .refused f => .refused f

/-- `n` ticks of it. -/
def runScript : Nat → ScriptRun → Host.Outcome ScriptRun Fault Refusal
  | 0, r => .next r
  | n + 1, r =>
    match scriptTick r with
    | .next t => runScript n t
    | .fault f => .fault f
    | .refused f => .refused f

/-- Every `GEN` the script has transferred has had all its bits transferred (R167). -/
def ScriptRun.delivered (r : ScriptRun) : Bool := r.requests.all fun q => decide (q.taken = q.length)

end Sys2Proof.Machine
end

