-- ==== Sys2Proof/WellFormed.lean ====
section
/-! DEFINITION. The checks the spec puts on configurations (R7 of spec/00_scope.md) and on instructions
(R78 of spec/30_encoding.md). Both are Booleans. The checks on a line of a command script are beside its type, in
Machine/Script.lean. -/

namespace Sys2Proof

/-- R7: `0 < ROT < W`, `DISCARD_LIMIT + 1 < 2^CNT_W`, both fallbacks nonzero. `CNT_W <= 32` is DEDUCED: R138 applies
`zext_32` to `cnt`, and R9 defines it for at most 32 bits (log 5). -/
def Params.wf (p : Params) : Bool :=
  decide (0 < p.rot) && decide (p.rot < 32) && decide (p.cntW ≤ 32)
    && decide (p.discardLimit + 1 < 2 ^ p.cntW) && decide (p.stateFallback ≠ 0#32)
    && decide (p.seedFallback ≠ 0#32)

/-- An instruction as R78 asks a host to send it: 0 in every ignored operand field. The machine accepts every
instruction, well formed or not, and no rule depends on this check. -/
def Instr.wf : Instr → Bool
  | .init _ _ => true
  | .initd _ b => decide (b = 0#32)
  | .inits _ _ => true
  | .initsd _ b => decide (b = 0#32)
  | .gen _ b => decide (b = 0#32)
  | .reserved0 a b => decide (a = 0#32) && decide (b = 0#32)
  | .reserved1 a b => decide (a = 0#32) && decide (b = 0#32)
  | .reserved2 a b => decide (a = 0#32) && decide (b = 0#32)
  | .reserved3 a b => decide (a = 0#32) && decide (b = 0#32)
  | .reserved9 a b => decide (a = 0#32) && decide (b = 0#32)
  | .reservedA a b => decide (a = 0#32) && decide (b = 0#32)
  | .reservedB a b => decide (a = 0#32) && decide (b = 0#32)
  | .reservedC a b => decide (a = 0#32) && decide (b = 0#32)
  | .reservedD a b => decide (a = 0#32) && decide (b = 0#32)
  | .reservedE a b => decide (a = 0#32) && decide (b = 0#32)
  | .reservedF a b => decide (a = 0#32) && decide (b = 0#32)
  | .phaseIdle => true
  | .draw1 => true
  | .draw2 => true
  | .valve => true
  | .emit => true
  | .phaseUnreachable5 => true
  | .phaseUnreachable6 => true
  | .halt => true
  | .reset => true

end Sys2Proof
end

