-- ==== Sys2Proof/Safety.lean ====
section
/-! DEFINITION. What the claims are stated in: the invariants of R36 (spec/10_state.md), a faulted configuration
and a run without a fault (R205 of spec/60_exceptions.md), a complete run, a hang and a stall (R167 of
spec/43_keystream_generator.md), and a host that does not assert `rst`. -/

namespace Sys2Proof

open Sys2Proof.Machine

/-- The invariants R36 (a) to (h), with R7 for the parameters and R31 for `fop`. -/
structure Inv (s : State) : Prop where
  /-- R7. -/
  params : s.cfg.wf = true
  /-- (a): the phase is one of the six defined. -/
  phaseDefined : s.phase ≠ .unreachable5 ∧ s.phase ≠ .unreachable6
  /-- (b): in `IDLE`, `rem` and `cnt` are 0. -/
  idleClear : s.phase = .idle → s.rem = 0#32 ∧ s.cnt = 0
  /-- (c): in a generating phase there are bits to deliver and the instance is initialised. -/
  busyOwes : s.phase.busy = true → s.rem ≠ 0#32 ∧ s.inited = true
  /-- (d), first clause. -/
  valveCount : s.phase = .valve ↔ s.cnt = s.cfg.discardLimit + 1
  /-- (d), second clause. -/
  drawCount : s.phase = .draw1 ∨ s.phase = .draw2 → s.cnt ≤ s.cfg.discardLimit
  /-- (d), third clause. -/
  emitCount : s.phase = .emit → s.cnt = 0
  /-- (e): an initialised instance has a nonzero seed. -/
  seedNonzero : s.inited = true → s.seed ≠ 0#32
  /-- (f): `HALT` exactly when a fault is recorded. -/
  haltFault : s.phase = .halt ↔ s.fcause ≠ 0#2
  /-- (g): a substituted seed is the fallback. -/
  substSeed : s.seedSubst = true → s.seed = s.cfg.seedFallback
  /-- (h): in `HALT`, `rem` and `cnt` are 0. -/
  haltClear : s.phase = .halt → s.rem = 0#32 ∧ s.cnt = 0
  /-- R31: `fcause` = 3 is never written, and `fop` is 0 where no fault is recorded. -/
  faultRecord : s.fcause ≠ 3#2 ∧ (s.fcause = 0#2 → s.fop = 0#4)

/-- R205: a configuration with a recorded fault is never the final state of a successful run. -/
def Faulted (s : State) : Prop := faultRecorded s = true

/-- The host does not assert `rst` in the next `n` ticks. -/
def NoReset (n : Nat) (s : State) : Prop := ∀ k, k < n → (pinsAt s k).rst = false

/-- The phases in which the block is looking for the next balanced bit. -/
def Searching (p : Phase) : Prop := p = .draw1 ∨ p = .draw2 ∨ p = .valve

/-- R167: a hang is a configuration that stays for ever in `DRAW1`, `DRAW2`, `VALVE`, whatever the host does but
reset. -/
def Hung (s : State) : Prop :=
  ∀ (inputs : List TickIn) (n : Nat) (t : State), NoReset n { s with inputs := inputs } →
    ticks n { s with inputs := inputs } = .next t → Searching t.phase

/-- R167: a configuration in `EMIT` whose host never raises `ks_ready` is stalled by the host. -/
def StalledByHost (s : State) : Prop := s.phase = .emit ∧ ∀ k, (pinsAt s k).ksReady = false

/-- R205: no fault was recorded in any configuration of the run (`fcause` = 0 throughout), the premise of every claim
about a command script. -/
def NeverFaulted (r : ScriptRun) : Prop := r.everFaulted = false ∧ ¬ Faulted r.block

/-- R167: a run of a script is complete when the script is exhausted, the block is in `IDLE`, no fault was recorded on
the way (R205), and every `GEN` of the script has had all its bits transferred. -/
def Complete (r : ScriptRun) : Prop :=
  r.lines = [] ∧ r.block.phase = .idle ∧ NeverFaulted r ∧ r.delivered = true

/-- The instance's parameters and the host's side of its channels are the same in both states. -/
def SameSurroundings (s t : State) : Prop := t.cfg = s.cfg ∧ t.inputs = s.inputs ∧ t.sent = s.sent

end Sys2Proof
end

