-- ==== Sys2Proof/Certificates/Slice0/Obligations.lean ====
section
/-! DEFINITION. The statements for the provers: what the numbered rules of spec/ say, about this model. `Claims` holds
the shapes several of them share. -/

namespace Sys2Proof.Claims

open Sys2Proof.Machine

/-- The registers and the surroundings after an `INIT*` that normalised the seed to `norm` (R184): what it writes,
and that it leaves the rest. -/
def Constructed (s t : State) (norm mask : Word) (subst : Bool) : Prop :=
  t.seed = norm ∧ t.state = norm ∧ t.mask = mask ∧ t.inited = true ∧ t.seedSubst = subst ∧ t.phase = .idle
    ∧ t.cnt = s.cnt ∧ t.rem = s.rem ∧ t.b1 = s.b1 ∧ t.out = s.out ∧ t.fcause = s.fcause ∧ t.fop = s.fop
    ∧ SameSurroundings s t

/-- The registers and the surroundings after a fault entry (R204). -/
def FaultTaken (s t : State) (cause : BitVec 2) (op : BitVec 4) : Prop :=
  t.fcause = cause ∧ t.fop = op ∧ t.phase = .halt
    ∧ t.state = s.state ∧ t.seed = s.seed ∧ t.mask = s.mask ∧ t.cnt = s.cnt ∧ t.rem = s.rem ∧ t.b1 = s.b1
    ∧ t.out = s.out ∧ t.inited = s.inited ∧ t.seedSubst = s.seedSubst ∧ SameSurroundings s t

/-- What no micro-operation of a generation writes: `seed`, `mask` and the flags, nor the surroundings but for the
bits the host takes. -/
def FlagsAndKeyKept (s t : State) : Prop :=
  t.seed = s.seed ∧ t.mask = s.mask ∧ t.inited = s.inited ∧ t.seedSubst = s.seedSubst ∧ t.fcause = s.fcause
    ∧ t.fop = s.fop ∧ t.cfg = s.cfg ∧ t.inputs = s.inputs

/-- What a tick answers when the instruction it runs answers `r`: the host's inputs of the tick are spent. -/
def afterTick : Result → Result
  | .next t => .next (tickPassed t)
  | .fault r => .fault r
  | .refused r => .refused r

/-- The opcode is one of the eleven reserved (R73). -/
def Reserved (op : Opcode) : Prop := op ≠ 4#4 ∧ op ≠ 5#4 ∧ op ≠ 6#4 ∧ op ≠ 7#4 ∧ op ≠ 8#4

/-- The opcode is one of the four construction commands (R71, format I). -/
def Construction (op : Opcode) : Prop := op = 4#4 ∨ op = 5#4 ∨ op = 6#4 ∨ op = 7#4

/-- The first `n` pairs of raw bits on the trajectory from `s` are all discards. -/
def AllDiscards (p : Params) (mask s : Word) (n : Nat) : Prop :=
  ∀ k, k < n → rawBit p mask (2 * k) s = rawBit p mask (2 * k + 1) s

/-- A host that is ready for a bit, and does not reset, at ticks `1` to `n` from now. -/
def ReadyHost (s : State) (n : Nat) : Prop :=
  ∀ k, 1 ≤ k → k ≤ n → (pinsAt s k).rst = false ∧ (pinsAt s k).ksReady = true

/-- A `GEN` of length `n` is transferred at this tick to an initialised instance. -/
def GenTransferred (s : State) (n : Word) : Prop :=
  commandTransfer s = true ∧ cmdOp s.pins.cmd = 8#4 ∧ cmdA s.pins.cmd = n ∧ s.inited = true

end Sys2Proof.Claims

open Sys2Proof Sys2Proof.Machine Sys2Proof.Claims

/-! ### Encoding -/

/-- R72: the operation a command word decodes to is a function of its opcode field, for every value of all three
fields (given as numbers, R70). -/
def Obligations.DecodingIsTheOpcodeMap : Prop :=
  ∀ (op : Opcode) (a b : Word) (w : CmdWord), w.toNat = op.toNat * 2 ^ 64 + a.toNat * 2 ^ 32 + b.toNat →
    (op = 0b0100#4 → decodeCmd w = .init a b) ∧ (op = 0b0101#4 → decodeCmd w = .initd a b)
    ∧ (op = 0b0110#4 → decodeCmd w = .inits a b) ∧ (op = 0b0111#4 → decodeCmd w = .initsd a b)
    ∧ (op = 0b1000#4 → decodeCmd w = .gen a b)
    ∧ (op = 0x0#4 → decodeCmd w = .reserved0 a b) ∧ (op = 0x1#4 → decodeCmd w = .reserved1 a b)
    ∧ (op = 0x2#4 → decodeCmd w = .reserved2 a b) ∧ (op = 0x3#4 → decodeCmd w = .reserved3 a b)
    ∧ (op = 0x9#4 → decodeCmd w = .reserved9 a b) ∧ (op = 0xA#4 → decodeCmd w = .reservedA a b)
    ∧ (op = 0xB#4 → decodeCmd w = .reservedB a b) ∧ (op = 0xC#4 → decodeCmd w = .reservedC a b)
    ∧ (op = 0xD#4 → decodeCmd w = .reservedD a b) ∧ (op = 0xE#4 → decodeCmd w = .reservedE a b)
    ∧ (op = 0xF#4 → decodeCmd w = .reservedF a b)

/-- Decoding the encoding of any instruction gives it back, whatever its operands (R70, R73, R80). The second clause
says the same of the bits numbered as the opcode table numbers them; that the kind of code is told from the number of
bits is the model's choice there (DESIGN CHOICE, log 9). -/
def Obligations.DecodeOfEncodeIsTheInstruction : Prop :=
  ∀ i : Instr, decode (encode i) = .ok i
    ∧ decodeTableWord (encode i).width (encode i).number = some i

/-- Every command word and every phase code is the encoding of what it decodes to: no bit is dropped (R70, R80). -/
def Obligations.EncodeOfDecodeIsTheCode : Prop :=
  (∀ w : CmdWord, encode (decodeCmd w) = .command w) ∧ (∀ c : PhaseCode, encode (decodePhase c) = .phase c)

/-- R84: the example encodings, each as a script line, as a word, and as the fields of the decoded instruction. -/
def Obligations.ExampleEncodingsDecode : Prop :=
  ((ScriptLine.initd 1923).word = some 0x50000078300000000#68
      ∧ decodeCmd 0x50000078300000000#68 = .initd 0x00000783#32 0#32)
    ∧ ((ScriptLine.init 1923 0xA5A5A5A5).word = some 0x400000783A5A5A5A5#68
      ∧ decodeCmd 0x400000783A5A5A5A5#68 = .init 0x00000783#32 0xA5A5A5A5#32)
    ∧ ((ScriptLine.init 0 0xA5A5A5A5).word = some 0x400000000A5A5A5A5#68
      ∧ decodeCmd 0x400000000A5A5A5A5#68 = .init 0#32 0xA5A5A5A5#32)
    ∧ ((ScriptLine.inits (-1923) 0xA5A5A5A5).word = some 0x6FFFFF87DA5A5A5A5#68
      ∧ decodeCmd 0x6FFFFF87DA5A5A5A5#68 = .inits 0xFFFFF87D#32 0xA5A5A5A5#32)
    ∧ ((ScriptLine.initsd (-1)).word = some 0x7FFFFFFFF00000000#68
      ∧ decodeCmd 0x7FFFFFFFF00000000#68 = .initsd 0xFFFFFFFF#32 0#32)
    ∧ ((ScriptLine.gen 8).word = some 0x80000000800000000#68
      ∧ decodeCmd 0x80000000800000000#68 = .gen 8#32 0#32)
    ∧ ((ScriptLine.gen 0).word = some 0x80000000000000000#68
      ∧ decodeCmd 0x80000000000000000#68 = .gen 0#32 0#32)
    ∧ ((ScriptLine.gen 304).word = some 0x80000013000000000#68
      ∧ decodeCmd 0x80000013000000000#68 = .gen 0x00000130#32 0#32)
    ∧ ((ScriptLine.raw 0x00000000000000000).word = some 0#68
      ∧ decodeCmd 0#68 = .reserved0 0#32 0#32)

/-- R82: the command word a script line stands for, as a number; a negative seed is its 32-bit two's complement.
What a script's host does at each tick is the model's (log 15), and is not stated here. -/
def Obligations.ScriptLinesStandForTheirWords : Prop :=
  (∀ seed mask : Nat, (ScriptLine.init seed mask).wf = true → ∃ w, (ScriptLine.init seed mask).word = some w
      ∧ w.toNat = 4 * 2 ^ 64 + seed * 2 ^ 32 + mask)
    ∧ (∀ seed : Nat, (ScriptLine.initd seed).wf = true → ∃ w, (ScriptLine.initd seed).word = some w
      ∧ w.toNat = 5 * 2 ^ 64 + seed * 2 ^ 32)
    ∧ (∀ (seed : Int) (mask : Nat), (ScriptLine.inits seed mask).wf = true →
      ∃ w, (ScriptLine.inits seed mask).word = some w
        ∧ (w.toNat : Int) = 6 * 2 ^ 64 + (if seed < 0 then 2 ^ 32 + seed else seed) * 2 ^ 32 + mask)
    ∧ (∀ seed : Int, (ScriptLine.initsd seed).wf = true → ∃ w, (ScriptLine.initsd seed).word = some w
      ∧ (w.toNat : Int) = 7 * 2 ^ 64 + (if seed < 0 then 2 ^ 32 + seed else seed) * 2 ^ 32)
    ∧ (∀ n : Nat, (ScriptLine.gen n).wf = true → ∃ w, (ScriptLine.gen n).word = some w
      ∧ w.toNat = 8 * 2 ^ 64 + n * 2 ^ 32)
    ∧ (∀ n : Nat, (ScriptLine.raw n).wf = true → ∃ w, (ScriptLine.raw n).word = some w ∧ w.toNat = n)
    ∧ ScriptLine.reset.word = none

/-- R78: the fields a command does not use have no effect. -/
def Obligations.IgnoredFieldsHaveNoEffect : Prop :=
  ∀ (a a' b b' : Word) (s : State),
    exec (.initd a b) s = exec (.initd a b') s ∧ exec (.initsd a b) s = exec (.initsd a b') s
    ∧ exec (.gen a b) s = exec (.gen a b') s
    ∧ exec (.reserved0 a b) s = exec (.reserved0 a' b') s ∧ exec (.reserved1 a b) s = exec (.reserved1 a' b') s
    ∧ exec (.reserved2 a b) s = exec (.reserved2 a' b') s ∧ exec (.reserved3 a b) s = exec (.reserved3 a' b') s
    ∧ exec (.reserved9 a b) s = exec (.reserved9 a' b') s ∧ exec (.reservedA a b) s = exec (.reservedA a' b') s
    ∧ exec (.reservedB a b) s = exec (.reservedB a' b') s ∧ exec (.reservedC a b) s = exec (.reservedC a' b') s
    ∧ exec (.reservedD a b) s = exec (.reservedD a' b') s ∧ exec (.reservedE a b) s = exec (.reservedE a' b') s
    ∧ exec (.reservedF a b) s = exec (.reservedF a' b') s

/-! ### The stepper and the extractor -/

/-- R101, R102, and R103 but for its last sentence: the transition, as numbers. Of that sentence
(`OddStepIsFollowedByAnEvenStep`) the last clause here states what is true: an odd step on which the guard does not
fire leaves an even state. -/
def Obligations.CollatzTransitionHalvesOrTriples : Prop :=
  ∀ s : Word,
    (s.toNat % 2 = 0 → (collatz s).toNat = s.toNat / 2 ∧ (collatz s).toNat ≤ 0x7FFFFFFF)
    ∧ (s.toNat % 2 = 1 → (collatz s).toNat = (3 * s.toNat + 1) % 2 ^ 32
        ∧ collatz s = add32 (add32 (add32 s s) s) 1#32 ∧ (collatz s).toNat % 2 = 0)
    ∧ collatz 0#32 = 0#32
    ∧ ∀ (p : Params) (mask : Word), s.toNat % 2 = 1 → 2 ≤ (collatz s).toNat →
        (stepperStep p s mask).1.toNat % 2 = 0

/-- R103's last sentence: "the step after an odd step is always an even step". Expected to FAIL: where the odd step's
result is 0 (from 0x55555555) the guard fires and can leave an odd state. -/
def Obligations.OddStepIsFollowedByAnEvenStep : Prop :=
  ∀ s mask : Word, s.toNat % 2 = 1 → (stepperStep Params.standard s mask).1.toNat % 2 = 0

/-- R104, R106: when the guard fires, its sum, and the replacement of a sum of exactly 0. -/
def Obligations.GuardPerturbsZeroAndOne : Prop :=
  (∀ (p : Params) (t mask : Word), t.toNat ≤ 1 →
      ((t.toNat + mask.toNat + p.guardK.toNat) % 2 ^ 32 ≠ 0 →
        (collatzGuard p t mask).toNat = (t.toNat + mask.toNat + p.guardK.toNat) % 2 ^ 32)
      ∧ ((t.toNat + mask.toNat + p.guardK.toNat) % 2 ^ 32 = 0 → collatzGuard p t mask = p.stateFallback))
    ∧ (∀ (p : Params) (t mask : Word), 2 ≤ t.toNat → collatzGuard p t mask = t)
    ∧ (∀ (p : Params) (s mask : Word), (stepperStep p s mask).1 = collatzGuard p (collatz s) mask)
    ∧ Params.standard.guardK = 137#32 ∧ Params.standard.stateFallback = 12345#32
    ∧ (∀ t mask : Word, t.toNat ≤ 1 →
        ((t.toNat + mask.toNat + 137) % 2 ^ 32 = 0 ↔ mask.toNat = (2 ^ 32 - 137 - t.toNat) % 2 ^ 32))
    ∧ (∀ t mask : Word, t.toNat ≤ 1 →
        ((t.toNat + mask.toNat + 137) % 2 ^ 32 = 0 ↔
          mask = 0xFFFFFF77#32 ∧ t = 0#32 ∨ mask = 0xFFFFFF76#32 ∧ t = 1#32))

/-- R108: the three incoming states on which the guard fires, and the walk 1, 4, 2. -/
def Obligations.GuardFiresOnThreeStates : Prop :=
  (∀ s : Word, collatz s = 1#32 ↔ s = 2#32)
    ∧ (∀ s : Word, collatz s = 0#32 ↔ s = 0#32 ∨ s = 0x55555555#32)
    ∧ (∀ s : Word, (collatz s).toNat ≤ 1 ↔ s = 0#32 ∨ s = 2#32 ∨ s = 0x55555555#32)
    ∧ (∀ (p : Params) (mask : Word), (stepperStep p 1#32 mask).1 = 4#32 ∧ (stepperStep p 4#32 mask).1 = 2#32
        ∧ collatz 2#32 = 1#32)

/-- R105: without the guard the mask does not touch the trajectory. -/
def Obligations.TrajectoryIgnoresMaskWhileGuardIsQuiet : Prop :=
  (∀ (p : Params) (t mask : Word), 2 ≤ t.toNat → collatzGuard p t mask = t)
    ∧ ∀ (p : Params) (m m' s : Word) (n : Nat),
      (∀ k, k < n → 2 ≤ (collatz (trajectory p m k s)).toNat) →
      ∀ k, k ≤ n → trajectory p m' k s = trajectory p m k s

/-- R113 for the default parameters and mask: the trajectory never stays in {0, 1, 2, 4}; within three steps of any
state it is outside. -/
def Obligations.TrajectoryLeavesTheTrivialCycle : Prop :=
  ∀ s : Word, ∃ k, k ≤ 3 ∧ trajectory Params.standard 0xA5A5A5A5#32 k s ≠ 0#32
    ∧ trajectory Params.standard 0xA5A5A5A5#32 k s ≠ 1#32
    ∧ trajectory Params.standard 0xA5A5A5A5#32 k s ≠ 2#32
    ∧ trajectory Params.standard 0xA5A5A5A5#32 k s ≠ 4#32

/-- R124: the raw bit is bit 27 of the new state, inverted where bit 27 of the mask is 1; and, for every rotate
distance that R7 admits, bit `32 - ROT`. -/
def Obligations.RawBitIsBit27 : Prop :=
  (∀ (p : Params) (g mask : Word), p.rot = 5 →
      extract p g mask = (g.getLsbD 27 ^^ mask.getLsbD 27)
      ∧ ∀ mask' : Word, mask'.getLsbD 27 = mask.getLsbD 27 → extract p g mask' = extract p g mask)
    ∧ ∀ (p : Params) (g mask : Word), 0 < p.rot → p.rot < 32 →
      extract p g mask = (g.getLsbD (32 - p.rot) ^^ mask.getLsbD (32 - p.rot))

/-- R122, R127: the rotation moves bit `i - 5` to bit `i`, loses none, and is undone by a rotation of 27. -/
def Obligations.RotationIsABijection : Prop :=
  (∀ (x : Word) (i : Nat), i < 32 → (rotl32 x 5).getLsbD i = x.getLsbD ((i + 27) % 32))
    ∧ (∀ x : Word, (rotl32 x 5).extractLsb' 5 27 = x.extractLsb' 0 27
        ∧ (rotl32 x 5).extractLsb' 0 5 = x.extractLsb' 27 5)
    ∧ (∀ x : Word, rotl32 (rotl32 x 5) 27 = x)
    ∧ Function.Bijective (fun x : Word => rotl32 x 5)
    ∧ (∀ (p : Params) (g mask : Word), p.rot = 5 → extract p g mask = (rotl32 (xor32 g mask) 5).getLsbD 0)

/-! ### Construction -/

/-- R182: the seed candidate of the unsigned forms is the operand, of the signed forms its magnitude as a
two's-complement integer; only 0 has the magnitude 0. -/
def Obligations.SeedCandidateIsTheMagnitude : Prop :=
  (∀ a : Word, seedUnsigned a = a)
    ∧ (∀ a : Word, (seedSigned a).toNat = a.toInt.natAbs)
    ∧ abs32 0x80000000#32 = 0x80000000#32 ∧ abs32 0#32 = 0#32
    ∧ (∀ a : Word, abs32 a = 0#32 ↔ a = 0#32)

/-- R186, with the register writes of R183, R184 for `s = 0`, `d = 0`. -/
def Obligations.InitBuildsTheInstance : Prop :=
  (∀ a b : Word, encode (.init a b) = .command (packCmd 0b0100#4 a b))
    ∧ (∀ (s : State) (a b : Word), ∃ t, exec (.init a b) s = .next t
        ∧ Constructed s t (if a = 0#32 then s.cfg.seedFallback else a) b (decide (a = 0#32)))
    ∧ Params.standard.seedFallback = 0x00003039#32
    ∧ decodeCmd 0x4000007835A5A5A5A#68 = .init 0x00000783#32 0x5A5A5A5A#32

/-- R187: as `INIT`, with the default mask and `B` ignored. -/
def Obligations.InitdBuildsTheInstanceWithTheDefaultMask : Prop :=
  (∀ a b : Word, encode (.initd a b) = .command (packCmd 0b0101#4 a b))
    ∧ (∀ (s : State) (a b : Word), ∃ t, exec (.initd a b) s = .next t
        ∧ Constructed s t (if a = 0#32 then s.cfg.seedFallback else a) s.cfg.maskDefault (decide (a = 0#32)))
    ∧ Params.standard.maskDefault = 0xA5A5A5A5#32
    ∧ decodeCmd 0x50000000000000000#68 = .initd 0#32 0#32

/-- R188: the magnitude of the two's-complement seed, the given mask; below 2^31 the same as `INIT`. -/
def Obligations.InitsTakesTheMagnitude : Prop :=
  (∀ a b : Word, encode (.inits a b) = .command (packCmd 0b0110#4 a b))
    ∧ (∀ (s : State) (a b : Word), ∃ (t : State) (norm : Word), exec (.inits a b) s = .next t
        ∧ norm.toNat = (if a = 0#32 then s.cfg.seedFallback.toNat else a.toInt.natAbs)
        ∧ Constructed s t norm b (decide (a = 0#32)))
    ∧ (∀ (s : State) (a b : Word), a.toNat ≤ 0x7FFFFFFF → exec (.inits a b) s = exec (.init a b) s)
    ∧ (∀ (s : State) (b : Word), exec (.inits 0x80000000#32 b) s = exec (.init 0x80000000#32 b) s
        ∧ exec (.inits 0xFFFFFFFF#32 b) s = exec (.init 1#32 b) s
        ∧ exec (.inits 0xFFFFF87D#32 b) s = exec (.init 1923#32 b) s)
    ∧ decodeCmd 0x6FFFFF87DA5A5A5A5#68 = .inits 0xFFFFF87D#32 0xA5A5A5A5#32

/-- R189: the magnitude of the two's-complement seed, the default mask, `B` ignored. -/
def Obligations.InitsdTakesTheMagnitudeAndTheDefaultMask : Prop :=
  (∀ a b : Word, encode (.initsd a b) = .command (packCmd 0b0111#4 a b))
    ∧ (∀ (s : State) (a b : Word), ∃ (t : State) (norm : Word), exec (.initsd a b) s = .next t
        ∧ norm.toNat = (if a = 0#32 then s.cfg.seedFallback.toNat else a.toInt.natAbs)
        ∧ Constructed s t norm s.cfg.maskDefault (decide (a = 0#32)))
    ∧ (∀ (s : State) (a b : Word), a.toNat ≤ 0x7FFFFFFF → exec (.initsd a b) s = exec (.initd a b) s)
    ∧ (∀ (s : State) (b : Word), exec (.initsd 0x80000000#32 b) s = exec (.initd 0x80000000#32 b) s
        ∧ exec (.initsd 0xFFFFFFFF#32 b) s = exec (.initd 1#32 b) s)
    ∧ decodeCmd 0x7FFFFFFFF00000000#68 = .initsd 0xFFFFFFFF#32 0#32

/-! ### Faults -/

/-- R204: fault entry, and what the ports show after it. -/
def Obligations.FaultEntryRecordsAndHalts : Prop :=
  ∀ (f : Fault) (s : State), FaultTaken s (raise f s) f.cause f.op
    ∧ (status (raise f s)).getLsbD 3 = true ∧ (status (raise f s)).extractLsb' 4 2 = f.cause
    ∧ (status (raise f s)).extractLsb' 8 4 = f.op ∧ (status (raise f s)).getLsbD 0 = false
    ∧ cmdReady (raise f s) = false

/-- R201: each of the eleven reserved opcodes takes `F_RESERVED_OP` with its opcode recorded, whatever the operands,
and changes nothing else. -/
def Obligations.ReservedOpcodesFault : Prop :=
  ∀ (s : State) (a b : Word),
    (∃ t, exec (.reserved0 a b) s = .next t ∧ FaultTaken s t 1#2 0x0#4)
    ∧ (∃ t, exec (.reserved1 a b) s = .next t ∧ FaultTaken s t 1#2 0x1#4)
    ∧ (∃ t, exec (.reserved2 a b) s = .next t ∧ FaultTaken s t 1#2 0x2#4)
    ∧ (∃ t, exec (.reserved3 a b) s = .next t ∧ FaultTaken s t 1#2 0x3#4)
    ∧ (∃ t, exec (.reserved9 a b) s = .next t ∧ FaultTaken s t 1#2 0x9#4)
    ∧ (∃ t, exec (.reservedA a b) s = .next t ∧ FaultTaken s t 1#2 0xA#4)
    ∧ (∃ t, exec (.reservedB a b) s = .next t ∧ FaultTaken s t 1#2 0xB#4)
    ∧ (∃ t, exec (.reservedC a b) s = .next t ∧ FaultTaken s t 1#2 0xC#4)
    ∧ (∃ t, exec (.reservedD a b) s = .next t ∧ FaultTaken s t 1#2 0xD#4)
    ∧ (∃ t, exec (.reservedE a b) s = .next t ∧ FaultTaken s t 1#2 0xE#4)
    ∧ (∃ t, exec (.reservedF a b) s = .next t ∧ FaultTaken s t 1#2 0xF#4)

/-- R202: a `GEN` of any length before any `INIT*` takes `F_GEN_BEFORE_INIT` and nothing else. -/
def Obligations.GenBeforeInitFaults : Prop :=
  ∀ (s : State) (len b : Word), s.inited = false →
    ∃ t, exec (.gen len b) s = .next t ∧ FaultTaken s t 2#2 0b1000#4

/-- R200: without a reset, a tick records a fault exactly in the two cases of the table, and otherwise leaves `fcause`
and `fop` as they are. -/
def Obligations.FaultsComeOnlyFromTheTwoCases : Prop :=
  ∀ s t : State, s.pins.rst = false → step s = .next t →
    (commandTransfer s = true ∧ Reserved (cmdOp s.pins.cmd) →
      t.fcause = 1#2 ∧ t.fop = cmdOp s.pins.cmd)
    ∧ (commandTransfer s = true ∧ cmdOp s.pins.cmd = 8#4 ∧ s.inited = false →
      t.fcause = 2#2 ∧ t.fop = 0b1000#4)
    ∧ (¬(commandTransfer s = true ∧ Reserved (cmdOp s.pins.cmd)) →
        ¬(commandTransfer s = true ∧ cmdOp s.pins.cmd = 8#4 ∧ s.inited = false) →
      t.fcause = s.fcause ∧ t.fop = s.fop)

/-- R159: `HALT` changes no register, whatever the inputs, for as long as there is no reset; and its outputs. The
phase codes 5 and 6 behave so too (R27). -/
def Obligations.HaltHoldsUntilReset : Prop :=
  (∀ s : State, exec .halt s = .next s ∧ exec .phaseUnreachable5 s = .next s
      ∧ exec .phaseUnreachable6 s = .next s)
    ∧ (∀ (n : Nat) (s : State), s.phase = .halt ∨ s.phase = .unreachable5 ∨ s.phase = .unreachable6 →
        NoReset n s →
        ticks n s = .next { s with inputs := s.inputs.drop n })
    ∧ (∀ s t : State, s.phase = .halt → step s = .next t → t.phase ≠ .halt → s.pins.rst = true)
    ∧ (∀ s : State, s.phase = .halt → cmdReady s = false ∧ ksValid s = false ∧ ksLast s = false
        ∧ (status s).getLsbD 0 = false ∧ (status s).getLsbD 3 = true)

/-! ### The micro-operations and the request -/

/-- R153: a `GEN` of an initialised instance reloads the seed, clears the counter and starts, and otherwise faults. -/
def Obligations.GenReloadsAndStarts : Prop :=
  ∀ (s : State) (len b : Word),
    (s.inited = true → ∃ t, exec (.gen len b) s = .next t ∧ t.state = s.seed ∧ t.cnt = 0 ∧ t.rem = len
      ∧ t.phase = (if len = 0#32 then .idle else .draw1) ∧ t.b1 = s.b1 ∧ t.out = s.out
      ∧ FlagsAndKeyKept s t ∧ t.sent = s.sent)
    ∧ (s.inited = false → ∃ t, exec (.gen len b) s = .next t ∧ FaultTaken s t 2#2 0b1000#4)

/-- R131: `DRAW1` makes one step, keeps the raw bit, and goes to `DRAW2`. -/
def Obligations.Draw1StepsAndLatches : Prop :=
  ∀ s : State, ∃ t, exec .draw1 s = .next t
    ∧ t.state = collatzGuard s.cfg (collatz s.state) s.mask ∧ t.b1 = extract s.cfg t.state s.mask ∧ t.phase = .draw2
    ∧ t.cnt = s.cnt ∧ t.rem = s.rem ∧ t.out = s.out ∧ FlagsAndKeyKept s t ∧ t.sent = s.sent
    ∧ (s.cfg = Params.standard → s.mask = 0xA5A5A5A5#32 → s.state = 0x00000783#32 →
        t.state = 0x0000168A#32 ∧ t.b1 = false)
    ∧ (s.phase = .draw1 → s.pins.rst = false → step s = .next (tickPassed t))

/-- R132 to R135: `DRAW2` makes one step and judges the pair; the state is not rolled back. -/
def Obligations.Draw2JudgesThePair : Prop :=
  ∀ s : State, ∃ t, exec .draw2 s = .next t
    ∧ t.state = collatzGuard s.cfg (collatz s.state) s.mask
    ∧ (s.b1 = false → extract s.cfg t.state s.mask = true → t.out = false ∧ t.cnt = 0 ∧ t.phase = .emit)
    ∧ (s.b1 = true → extract s.cfg t.state s.mask = false → t.out = true ∧ t.cnt = 0 ∧ t.phase = .emit)
    ∧ (s.b1 = extract s.cfg t.state s.mask → t.out = s.out ∧ t.cnt = s.cnt + 1
        ∧ (s.cnt + 1 > s.cfg.discardLimit → t.phase = .valve)
        ∧ (s.cnt + 1 ≤ s.cfg.discardLimit → t.phase = .draw1))
    ∧ (s.b1 ≠ extract s.cfg t.state s.mask → t.out = s.b1 ∧ t.out = !extract s.cfg t.state s.mask)
    ∧ t.b1 = s.b1 ∧ t.rem = s.rem ∧ FlagsAndKeyKept s t ∧ t.sent = s.sent
    ∧ (s.phase = .draw2 → s.pins.rst = false → step s = .next (tickPassed t))

/-- R138: `VALVE` adds the count modulo 2^32, clears it, and goes on drawing; in reachable states the count is the
limit plus one. -/
def Obligations.ValveAddsTheCount : Prop :=
  ∀ s : State, ∃ t, exec .valve s = .next t
    ∧ t.state.toNat = (s.state.toNat + s.cnt) % 2 ^ 32 ∧ t.cnt = 0 ∧ t.phase = .draw1
    ∧ t.b1 = s.b1 ∧ t.out = s.out ∧ t.rem = s.rem ∧ FlagsAndKeyKept s t ∧ t.sent = s.sent
    ∧ (Inv s → (s.phase = .valve ↔ s.cnt = s.cfg.discardLimit + 1))
    ∧ (s.phase = .valve → s.pins.rst = false → step s = .next (tickPassed t))

/-- R156: `EMIT` with a host that is not ready changes no register and holds the offer. -/
def Obligations.EmitWaitsForTheHost : Prop :=
  (∀ s : State, s.pins.ksReady = false → exec .emit s = .next s)
    ∧ (∀ s : State, s.phase = .emit →
        ksValid s = true ∧ ksBit s = s.out ∧ ksLast s = decide (s.rem = 1#32))
    ∧ (∀ (n : Nat) (s : State), s.phase = .emit →
        (∀ k, k < n → (pinsAt s k).rst = false ∧ (pinsAt s k).ksReady = false) →
        ticks n s = .next { s with inputs := s.inputs.drop n })

/-- R157: `EMIT` with a ready host transfers the bit and counts it. (With `rem` = 0, which no reachable state has in
`EMIT`, the count is the model's own, log 11, and is not stated.) -/
def Obligations.EmitTransfersTheBit : Prop :=
  ∀ s : State, s.pins.ksReady = true → ∃ t, exec .emit s = .next t
    ∧ t.sent = s.sent ++ [ksBit s]
    ∧ (s.rem = 1#32 → t.rem = 0#32 ∧ t.phase = .idle)
    ∧ (2 ≤ s.rem.toNat → t.rem.toNat = s.rem.toNat - 1 ∧ t.phase = .draw1)
    ∧ t.state = s.state ∧ t.cnt = s.cnt ∧ t.b1 = s.b1 ∧ t.out = s.out ∧ FlagsAndKeyKept s t
    ∧ (s.phase = .emit → s.pins.rst = false → step s = .next (tickPassed t))

/-- R158: `IDLE` waits without a command and executes the one offered in the same transition. -/
def Obligations.IdleWaitsOrExecutes : Prop :=
  (∀ s : State, s.pins.cmdValid = false → exec .phaseIdle s = .next s)
    ∧ (∀ s : State, s.pins.cmdValid = true → ∃ t, exec .phaseIdle s = .next t
        ∧ exec (decodeCmd s.pins.cmd) s = .next t
        ∧ (s.phase = .idle → s.pins.rst = false → step s = .next (tickPassed t)))
    ∧ (∀ s : State, s.phase = .idle → s.pins.rst = false → s.pins.cmdValid = false →
        step s = .next (tickPassed s))
    ∧ (∀ s : State, s.phase = .idle → cmdReady s = true ∧ ksValid s = false ∧ ksLast s = false
        ∧ (status s).getLsbD 0 = false)

/-- The reset transition (R230) gives every register its reset value, from every state, and the outputs after it. That
an instance with other parameters resets to its own `SEED_FALLBACK` and `MASK_DEFAULT`, as the comments of R230 name
them, and not to the literals beside them, is the model's choice (DESIGN CHOICE, log 4); the clause with the literals
is for the default parameters, where the two agree. -/
def Obligations.ResetRestoresEveryRegister : Prop :=
  ∀ s : State, ∃ t, exec .reset s = .next t
    ∧ t.state = s.cfg.seedFallback ∧ t.seed = s.cfg.seedFallback ∧ t.mask = s.cfg.maskDefault
    ∧ t.cnt = 0 ∧ t.rem = 0#32 ∧ t.b1 = false ∧ t.out = false ∧ t.phase = .idle ∧ t.inited = false
    ∧ t.seedSubst = false ∧ t.fcause = 0#2 ∧ t.fop = 0#4 ∧ SameSurroundings s t
    ∧ (s.cfg = Params.standard →
        t.state = 0x00003039#32 ∧ t.seed = 0x00003039#32 ∧ t.mask = 0xA5A5A5A5#32)
    ∧ cmdReady t = true ∧ ksValid t = false ∧ ksLast t = false ∧ ksBit t = false ∧ status t = 0x0000#16
    ∧ (s.pins.rst = true → step s = .next (tickPassed t))

/-- R20, R37: the registers right after reset, with the default parameters. That the instance has the default
parameters (log 4) is the model's choice. -/
def Obligations.ResetStateHasTheTableValues : Prop :=
  State.reset.state = 0x00003039#32 ∧ State.reset.seed = 0x00003039#32 ∧ State.reset.mask = 0xA5A5A5A5#32
    ∧ State.reset.cnt = 0 ∧ State.reset.rem = 0#32 ∧ State.reset.b1 = false ∧ State.reset.out = false
    ∧ State.reset.phase.code = 0b000#3 ∧ State.reset.inited = false ∧ State.reset.seedSubst = false
    ∧ State.reset.fcause = 0#2 ∧ State.reset.fop = 0#4 ∧ status State.reset = 0x0000#16
    ∧ resetRegs State.reset = State.reset

/-! ### The sequencer -/

/-- R150: which instruction a tick runs, and that the tick's inputs are then spent (R54). -/
def Obligations.TickRunsTheSelectedInstruction : Prop :=
  ∀ s : State,
    (s.pins.rst = true → step s = afterTick (exec .reset s))
    ∧ (s.pins.rst = false → s.phase = .idle → s.pins.cmdValid = true →
        step s = afterTick (exec (decodeCmd s.pins.cmd) s))
    ∧ (s.pins.rst = false → s.phase = .idle → s.pins.cmdValid = false → step s = .next (tickPassed s))
    ∧ (s.pins.rst = false → s.phase = .draw1 → step s = afterTick (exec .draw1 s))
    ∧ (s.pins.rst = false → s.phase = .draw2 → step s = afterTick (exec .draw2 s))
    ∧ (s.pins.rst = false → s.phase = .valve → step s = afterTick (exec .valve s))
    ∧ (s.pins.rst = false → s.phase = .emit → s.pins.ksReady = true → step s = afterTick (exec .emit s))
    ∧ (s.pins.rst = false → s.phase = .emit → s.pins.ksReady = false → step s = .next (tickPassed s))
    ∧ (s.pins.rst = false → s.phase = .halt → step s = .next (tickPassed s))

/-- The instruction placed with `withFetchWord` is the one the next tick runs. How bits are read as an instruction
(DESIGN CHOICE, log 9) and how an instruction is placed (DESIGN CHOICE, log 10) are the model's own; no rule of the spec
speaks of either. -/
def Obligations.PlacedInstructionIsTheOneThatRuns : Prop :=
  ∀ (s : State) (nbits w : Nat) (i : Instr), decodeTableWord nbits w = some i →
    step (s.withFetchWord nbits w) = afterTick (exec i (s.withFetchWord nbits w))

/-- R151: the next-phase function, row by row. -/
def Obligations.NextPhaseTable : Prop :=
  ∀ s t : State, step s = .next t →
    (s.pins.rst = true → t.phase = .idle)
    ∧ (s.pins.rst = false →
      (s.phase = .idle → s.pins.cmdValid = false → t.phase = .idle)
      ∧ (s.phase = .idle → s.pins.cmdValid = true → Construction (cmdOp s.pins.cmd) → t.phase = .idle)
      ∧ (s.phase = .idle → s.pins.cmdValid = true → cmdOp s.pins.cmd = 8#4 → s.inited = true →
          cmdA s.pins.cmd = 0#32 → t.phase = .idle)
      ∧ (s.phase = .idle → s.pins.cmdValid = true → cmdOp s.pins.cmd = 8#4 → s.inited = true →
          1 ≤ (cmdA s.pins.cmd).toNat → t.phase = .draw1)
      ∧ (s.phase = .idle → s.pins.cmdValid = true → cmdOp s.pins.cmd = 8#4 → s.inited = false →
          t.phase = .halt)
      ∧ (s.phase = .idle → s.pins.cmdValid = true → Reserved (cmdOp s.pins.cmd) → t.phase = .halt)
      ∧ (s.phase = .draw1 → t.phase = .draw2)
      ∧ (s.phase = .draw2 → s.b1 ≠ (stepperStep s.cfg s.state s.mask).2 → t.phase = .emit)
      ∧ (s.phase = .draw2 → s.b1 = (stepperStep s.cfg s.state s.mask).2 →
          s.cnt + 1 ≤ s.cfg.discardLimit → t.phase = .draw1)
      ∧ (s.phase = .draw2 → s.b1 = (stepperStep s.cfg s.state s.mask).2 →
          s.cnt + 1 > s.cfg.discardLimit → t.phase = .valve)
      ∧ (s.phase = .valve → t.phase = .draw1)
      ∧ (s.phase = .emit → s.pins.ksReady = false → t.phase = .emit)
      ∧ (s.phase = .emit → s.pins.ksReady = true → s.rem = 1#32 → t.phase = .idle)
      ∧ (s.phase = .emit → s.pins.ksReady = true → 2 ≤ s.rem.toNat → t.phase = .draw1)
      ∧ (s.phase = .halt → t.phase = .halt))

/-- R74, R217: no instruction and no tick stops the machine, in any state. -/
def Obligations.EveryTickHasASuccessor : Prop :=
  (∀ (i : Instr) (s : State), ∃ t, exec i s = .next t) ∧ (∀ s : State, ∃ t, step s = .next t)

/-- R36: every tick, with any inputs, keeps the invariants. -/
def Obligations.EveryTickKeepsTheInvariants : Prop :=
  ∀ s t : State, Inv s → step s = .next t → Inv t

/-- R36 holds right after reset. -/
def Obligations.ResetStateMeetsTheInvariants : Prop := Inv State.reset

/-- A reset tick brings any state of an instance with legal parameters, reachable or not, into the invariants. -/
def Obligations.ResetTickEstablishesTheInvariants : Prop :=
  ∀ s t : State, s.cfg.wf = true → s.pins.rst = true → step s = .next t → Inv t

/-- R137: in reachable states the counter's increment in `DRAW2` never wraps. -/
def Obligations.CounterNeverWraps : Prop :=
  (∀ s : State, Inv s → s.cnt < 2 ^ s.cfg.cntW
      ∧ (s.phase = .draw2 → s.cnt ≤ s.cfg.discardLimit ∧ s.cnt + 1 ≤ s.cfg.discardLimit + 1
        ∧ s.cfg.discardLimit + 1 < 2 ^ s.cfg.cntW))
    ∧ Params.standard.discardLimit + 1 = 1001 ∧ 2 ^ Params.standard.cntW = 1024

/-- R139: the valve fires after exactly `DISCARD_LIMIT + 1` consecutive discards, adds that number, and the count
starts again from 0. -/
def Obligations.ValveFiresAfterLimitPlusOneDiscards : Prop :=
  ∀ (s : State) (n : Nat), s.phase = .draw1 → s.cnt = 0 → n ≤ s.cfg.discardLimit + 1 →
    AllDiscards s.cfg s.mask s.state n →
    (NoReset (2 * n) s → ∃ t, ticks (2 * n) s = .next t
      ∧ t.state = trajectory s.cfg s.mask (2 * n) s.state ∧ t.cnt = n ∧ t.sent = s.sent
      ∧ t.phase = (if n = s.cfg.discardLimit + 1 then .valve else .draw1))
    ∧ (NoReset (2 * n + 1) s → n = s.cfg.discardLimit + 1 → ∃ t, ticks (2 * n + 1) s = .next t
      ∧ t.state.toNat = ((trajectory s.cfg s.mask (2 * n) s.state).toNat + (s.cfg.discardLimit + 1)) % 2 ^ 32
      ∧ t.cnt = 0 ∧ t.phase = .draw1)

/-- R21: the complete list of what writes `state`. -/
def Obligations.StateIsWrittenOnlyByTheListedTransitions : Prop :=
  ∀ s t : State, step s = .next t → t.state ≠ s.state →
    s.pins.rst = true
    ∨ (commandTransfer s = true ∧ (Construction (cmdOp s.pins.cmd) ∨ cmdOp s.pins.cmd = 8#4))
    ∨ s.phase = .draw1 ∨ s.phase = .draw2 ∨ s.phase = .valve

/-- R23, R24: `seed` and `mask` are written only by reset and by the construction commands, and the instance's
parameters by nothing. -/
def Obligations.SeedAndMaskAreWrittenOnlyByConstruction : Prop :=
  ∀ s t : State, step s = .next t →
    (t.seed ≠ s.seed ∨ t.mask ≠ s.mask →
      s.pins.rst = true ∨ (commandTransfer s = true ∧ Construction (cmdOp s.pins.cmd)))
    ∧ t.cfg = s.cfg

/-- R56, R57: outside `IDLE` the command channel is ignored; outside `EMIT` the host's readiness for a bit is
(R145, R150). -/
def Obligations.ChannelsAreIgnoredOutsideTheirPhase : Prop :=
  (∀ (s : State) (i j : TickIn), s.phase ≠ .idle → i.rst = j.rst → i.ksReady = j.ksReady →
      step (withPins i s) = step (withPins j s))
    ∧ (∀ (s : State) (i j : TickIn), s.phase ≠ .emit → i.rst = j.rst → i.cmdValid = j.cmdValid →
      i.cmd = j.cmd → step (withPins i s) = step (withPins j s))

/-- R231: a reset tick leaves the same state whatever the registers and the other inputs were. -/
def Obligations.ResetForgetsEverything : Prop :=
  ∀ (s s' : State) (i j : TickIn), i.rst = true → j.rst = true → s.cfg = s'.cfg →
    s.inputs.tail = s'.inputs.tail → s.sent = s'.sent → step (withPins i s) = step (withPins j s')

/-- R58, R60, R141: a tick hands the host the bit on `ks_bit` exactly at a bit transfer, after the bits it already
has, and takes none back, not by a reset either (R233). -/
def Obligations.BitsAreHandedOverOnceAndKept : Prop :=
  ∀ s t : State, step s = .next t →
    t.sent = s.sent ++ (if bitTransfer s = true then [ksBit s] else [])

/-- R59: `ks_last` marks the final bit of a request, and only that. -/
def Obligations.LastFlagMarksTheFinalBit : Prop :=
  (∀ s : State, ksLast s = true ↔ ksValid s = true ∧ s.rem = 1#32)
    ∧ (∀ s t : State, Inv s → bitTransfer s = true → step s = .next t →
        (ksLast s = true → t.phase = .idle ∧ t.rem = 0#32) ∧ (ksLast s = false → t.phase = .draw1))
    ∧ (∀ s t : State, s.pins.rst = false → GenTransferred s 0#32 → step s = .next t →
        cmdReady t = true ∧ (status t).getLsbD 0 = false ∧ t.sent = s.sent)

/-- R163: without a reset, a tick of a generating phase keeps the number of bits delivered plus the number still
owed. -/
def Obligations.DeliveredPlusOwedIsConserved : Prop :=
  ∀ s t : State, Inv s → s.phase.busy = true → s.pins.rst = false → step s = .next t →
    t.sent.length + t.rem.toNat = s.sent.length + s.rem.toNat

/-- R32: the fields of the status word; the values for the phase codes 5 and 6 are the model's (log 7) and are not
stated. -/
def Obligations.StatusWordFields : Prop :=
  (∀ s : State, s.phase ≠ .unreachable5 → s.phase ≠ .unreachable6 →
      (status s).toNat = (if s.phase = .draw1 ∨ s.phase = .draw2 ∨ s.phase = .valve ∨ s.phase = .emit then 1 else 0)
        + 2 * s.inited.toNat + 4 * s.seedSubst.toNat + 8 * (if s.phase = .halt then 1 else 0)
        + 16 * s.fcause.toNat + 256 * s.fop.toNat)
    ∧ (∀ s : State, (status s).extractLsb' 6 2 = 0#2 ∧ (status s).extractLsb' 12 4 = 0#4)
    ∧ status State.reset = 0x0000#16

/-! ### Refinement of the functional forms -/

/-- More fuel never changes what an extraction gives: the functional form of R143 is one partial function. -/
def Obligations.MoreFuelGivesTheSameExtraction : Prop :=
  ∀ (p : Params) (mask s : Word) (cnt fuel fuel' : Nat) (r : BitResult),
    nbbLoop p mask fuel s cnt = some r → fuel ≤ fuel' → nbbLoop p mask fuel' s cnt = some r

/-- R144: the sequencer from `DRAW1` with `cnt` = 0 refines `next_balanced_bit`, in exactly `2k + v` ticks; where the
function is undefined, `EMIT` is never reached. -/
def Obligations.SequencerRefinesNextBalancedBit : Prop :=
  (∀ (s : State) (fuel : Nat) (r : BitResult), s.phase = .draw1 → s.cnt = 0 →
      nextBalancedBit s.cfg s.mask fuel s.state = some r → NoReset (2 * r.pairs + r.firings) s →
      ∃ t, ticks (2 * r.pairs + r.firings) s = .next t
        ∧ t.phase = .emit ∧ t.state = r.state ∧ t.out = r.bit ∧ t.cnt = 0 ∧ t.rem = s.rem ∧ t.sent = s.sent
        ∧ t.seed = s.seed ∧ t.mask = s.mask ∧ t.inited = s.inited ∧ t.seedSubst = s.seedSubst
        ∧ t.fcause = s.fcause ∧ t.fop = s.fop ∧ t.cfg = s.cfg
        ∧ t.inputs = s.inputs.drop (2 * r.pairs + r.firings))
    ∧ (∀ s : State, s.phase = .draw1 → s.cnt = 0 →
        (∀ fuel, nextBalancedBit s.cfg s.mask fuel s.state = none) →
        ∀ n, NoReset n s → ∃ t, ticks n s = .next t ∧ t.phase ≠ .emit)

/-- R160's prefix property: a shorter request gives the first bits of a longer one. -/
def Obligations.ShorterRequestsArePrefixes : Prop :=
  ∀ (p : Params) (mask seed : Word) (fuel m n : Nat) (k : Keystream),
    generate p mask fuel n seed = some k → m ≤ n →
    k.bits.length = n ∧ ∃ k', generate p mask fuel m seed = some k' ∧ k'.bits = k.bits.take m

/-- R161, R246 for an always-ready host: a request delivers exactly the generated bits, in `1 + 2k + v + n` ticks. -/
def Obligations.RequestDeliversTheGeneratedKeystream : Prop :=
  ∀ (s : State) (n : Word) (fuel : Nat) (k : Keystream), GenTransferred s n →
    generate s.cfg s.mask fuel n.toNat s.seed = some k → ReadyHost s (2 * k.pairs + k.firings + n.toNat) →
    ∃ t, ticks (1 + 2 * k.pairs + k.firings + n.toNat) s = .next t
      ∧ t.sent = s.sent ++ k.bits ∧ t.phase = .idle ∧ t.state = k.state ∧ t.rem = 0#32 ∧ t.cnt = 0
      ∧ t.seed = s.seed ∧ t.mask = s.mask ∧ t.inited = s.inited ∧ t.seedSubst = s.seedSubst
      ∧ t.fcause = s.fcause ∧ t.fop = s.fop ∧ t.cfg = s.cfg

/-- R58, R161 for a host of any readiness: whatever the host does short of a reset or another command, the bits it has
taken are the first bits of the generated keystream, and it has all of them when the block is idle again. -/
def Obligations.AnyHostTakesThePrefixOfTheKeystream : Prop :=
  ∀ (s t : State) (n : Word) (fuel N : Nat) (k : Keystream), GenTransferred s n →
    generate s.cfg s.mask fuel n.toNat s.seed = some k → 1 ≤ N → NoReset N s →
    (∀ j, 1 ≤ j → j < N → (pinsAt s j).cmdValid = false) → ticks N s = .next t →
    t.rem.toNat ≤ n.toNat ∧ t.sent = s.sent ++ k.bits.take (n.toNat - t.rem.toNat)
      ∧ (t.phase = .idle → t.sent = s.sent ++ k.bits ∧ t.state = k.state)

/-- R161, the undefined case, for an always-ready host: if the extraction after the first `j` bits is undefined, exactly
those `j` bits are delivered and the block then stays in `DRAW1`, `DRAW2`, `VALVE` for ever. -/
def Obligations.RequestStallsAtAnUndefinedExtraction : Prop :=
  ∀ (s : State) (n : Word) (fuel j N : Nat) (k : Keystream), GenTransferred s n → j < n.toNat →
    generate s.cfg s.mask fuel j s.seed = some k →
    (∀ fuel', nextBalancedBit s.cfg s.mask fuel' k.state = none) →
    1 + 2 * k.pairs + k.firings + j ≤ N → ReadyHost s N →
    ∃ t, ticks N s = .next t ∧ t.sent = s.sent ++ k.bits ∧ k.bits.length = j
      ∧ (t.phase = .draw1 ∨ t.phase = .draw2 ∨ t.phase = .valve)

/-- R162: what a request delivers depends on the seed, the mask and the parameters alone: two instances that agree on
them, and whose hosts drive the same from a `GEN` on, deliver the same bits at the same ticks, whatever else their
registers held. -/
def Obligations.SameSeedAndMaskSameBits : Prop :=
  ∀ (s s' t t' : State) (n : Word) (N : Nat), GenTransferred s n → GenTransferred s' n →
    s.cfg = s'.cfg → s.seed = s'.seed → s.mask = s'.mask → s.inputs = s'.inputs →
    ticks (N + 1) s = .next t → ticks (N + 1) s' = .next t' →
    ksValid t = ksValid t' ∧ ksLast t = ksLast t' ∧ cmdReady t = cmdReady t'
      ∧ (ksValid t = true → ksBit t = ksBit t')
      ∧ ∃ bits, t.sent = s.sent ++ bits ∧ t'.sent = s'.sent ++ bits

/-- R244: with `DISCARD_LIMIT` = 1 and the default mask, the configuration (0x2E, `cnt` = 0, `DRAW1`) recurs, so the
extraction that reaches it never ends. -/
def Obligations.LimitOneHangsFromState2E : Prop :=
  ∀ (s : State) (n : Nat), s.cfg = { Params.standard with discardLimit := 1 } → s.mask = 0xA5A5A5A5#32 →
    s.state = 0x0000002E#32 → s.cnt = 0 → s.phase = .draw1 → NoReset n s →
    ∃ t, ticks n s = .next t ∧ t.phase ≠ .emit ∧ t.sent = s.sent

/-- R241 (a), R142: with the default parameters and the mask 0, the configuration after the second valve firing of the
seed 1923 (0x3EE, `cnt` = 0, `DRAW1`) never produces a bit: an extraction is not guaranteed to end. -/
def Obligations.ZeroMaskHangsFromState3EE : Prop :=
  ∀ (s : State) (n : Nat), s.cfg = Params.standard → s.mask = 0#32 → s.state = 0x000003EE#32 → s.cnt = 0 →
    s.phase = .draw1 → NoReset n s → ∃ t, ticks n s = .next t ∧ t.phase ≠ .emit ∧ t.sent = s.sent

/-- R167's hang, in the terms of R143: from `DRAW1` with `cnt` = 0 the block hangs exactly where `next_balanced_bit` is
undefined (none for every fuel, log 14). -/
def Obligations.HungExactlyWhereTheExtractionIsUndefined : Prop :=
  ∀ s : State, s.phase = .draw1 → s.cnt = 0 →
    (Hung s ↔ ∀ fuel, nextBalancedBit s.cfg s.mask fuel s.state = none)
end

