-- ==== Sys2Proof/Laws/Encoding.lean ====
section
/-! SUPPORT. The command word as a number, and its fields as numbers (R70). -/

namespace Sys2Proof

/-- R70 as a number: `op * 2^64 + A * 2^32 + B`. -/
theorem packCmd_toNat (op : Opcode) (a b : Word) :
    (packCmd op a b).toNat = op.toNat * 2 ^ 64 + a.toNat * 2 ^ 32 + b.toNat := by
  have ha := a.isLt
  have hb := b.isLt
  simp only [packCmd, BitVec.toNat_append]
  rw [← Nat.shiftLeft_add_eq_or_of_lt ha, ← Nat.shiftLeft_add_eq_or_of_lt hb, Nat.shiftLeft_eq,
    Nat.shiftLeft_eq]
  omega

theorem cmdOp_toNat (w : CmdWord) : (cmdOp w).toNat = w.toNat / 2 ^ 64 := by
  have := w.isLt
  simp only [cmdOp, BitVec.extractLsb'_toNat, Nat.shiftRight_eq_div_pow]
  omega

theorem cmdA_toNat (w : CmdWord) : (cmdA w).toNat = w.toNat / 2 ^ 32 % 2 ^ 32 := by
  simp only [cmdA, BitVec.extractLsb'_toNat, Nat.shiftRight_eq_div_pow]

theorem cmdB_toNat (w : CmdWord) : (cmdB w).toNat = w.toNat % 2 ^ 32 := by
  simp [cmdB, BitVec.extractLsb'_toNat]

end Sys2Proof
end

