-- ==== Sys2Proof/Laws/State.lean ====
section
/-! SUPPORT. Each field of State after each operation of Machine/Ops.lean (and `withPins` of Machine/Fetch.lean), so
that no proof unfolds a record update; and what the pins read after them. -/

namespace Sys2Proof.Machine

variable (s : State)

@[simp] theorem raise_cfg (f : Fault) : (raise f s).cfg = s.cfg := rfl
@[simp] theorem raise_state (f : Fault) : (raise f s).state = s.state := rfl
@[simp] theorem raise_seed (f : Fault) : (raise f s).seed = s.seed := rfl
@[simp] theorem raise_mask (f : Fault) : (raise f s).mask = s.mask := rfl
@[simp] theorem raise_cnt (f : Fault) : (raise f s).cnt = s.cnt := rfl
@[simp] theorem raise_rem (f : Fault) : (raise f s).rem = s.rem := rfl
@[simp] theorem raise_b1 (f : Fault) : (raise f s).b1 = s.b1 := rfl
@[simp] theorem raise_out (f : Fault) : (raise f s).out = s.out := rfl
@[simp] theorem raise_phase (f : Fault) : (raise f s).phase = .halt := rfl
@[simp] theorem raise_inited (f : Fault) : (raise f s).inited = s.inited := rfl
@[simp] theorem raise_seedSubst (f : Fault) : (raise f s).seedSubst = s.seedSubst := rfl
@[simp] theorem raise_fcause (f : Fault) : (raise f s).fcause = f.cause := rfl
@[simp] theorem raise_fop (f : Fault) : (raise f s).fop = f.op := rfl
@[simp] theorem raise_inputs (f : Fault) : (raise f s).inputs = s.inputs := rfl
@[simp] theorem raise_sent (f : Fault) : (raise f s).sent = s.sent := rfl

@[simp] theorem resetRegs_cfg : (resetRegs s).cfg = s.cfg := rfl
@[simp] theorem resetRegs_state : (resetRegs s).state = s.cfg.seedFallback := rfl
@[simp] theorem resetRegs_seed : (resetRegs s).seed = s.cfg.seedFallback := rfl
@[simp] theorem resetRegs_mask : (resetRegs s).mask = s.cfg.maskDefault := rfl
@[simp] theorem resetRegs_cnt : (resetRegs s).cnt = 0 := rfl
@[simp] theorem resetRegs_rem : (resetRegs s).rem = 0#32 := rfl
@[simp] theorem resetRegs_b1 : (resetRegs s).b1 = false := rfl
@[simp] theorem resetRegs_out : (resetRegs s).out = false := rfl
@[simp] theorem resetRegs_phase : (resetRegs s).phase = .idle := rfl
@[simp] theorem resetRegs_inited : (resetRegs s).inited = false := rfl
@[simp] theorem resetRegs_seedSubst : (resetRegs s).seedSubst = false := rfl
@[simp] theorem resetRegs_fcause : (resetRegs s).fcause = 0#2 := rfl
@[simp] theorem resetRegs_fop : (resetRegs s).fop = 0#4 := rfl
@[simp] theorem resetRegs_inputs : (resetRegs s).inputs = s.inputs := rfl
@[simp] theorem resetRegs_sent : (resetRegs s).sent = s.sent := rfl

@[simp] theorem construct_cfg (cand m : Word) : (construct cand m s).cfg = s.cfg := rfl
@[simp] theorem construct_state (cand m : Word) : (construct cand m s).state = normSeed s.cfg cand := rfl
@[simp] theorem construct_seed (cand m : Word) : (construct cand m s).seed = normSeed s.cfg cand := rfl
@[simp] theorem construct_mask (cand m : Word) : (construct cand m s).mask = m := rfl
@[simp] theorem construct_cnt (cand m : Word) : (construct cand m s).cnt = s.cnt := rfl
@[simp] theorem construct_rem (cand m : Word) : (construct cand m s).rem = s.rem := rfl
@[simp] theorem construct_b1 (cand m : Word) : (construct cand m s).b1 = s.b1 := rfl
@[simp] theorem construct_out (cand m : Word) : (construct cand m s).out = s.out := rfl
@[simp] theorem construct_phase (cand m : Word) : (construct cand m s).phase = .idle := rfl
@[simp] theorem construct_inited (cand m : Word) : (construct cand m s).inited = true := rfl
@[simp] theorem construct_seedSubst (cand m : Word) : (construct cand m s).seedSubst = substFlag cand := rfl
@[simp] theorem construct_fcause (cand m : Word) : (construct cand m s).fcause = s.fcause := rfl
@[simp] theorem construct_fop (cand m : Word) : (construct cand m s).fop = s.fop := rfl
@[simp] theorem construct_inputs (cand m : Word) : (construct cand m s).inputs = s.inputs := rfl
@[simp] theorem construct_sent (cand m : Word) : (construct cand m s).sent = s.sent := rfl

@[simp] theorem reload_cfg (len : Word) : (reload len s).cfg = s.cfg := rfl
@[simp] theorem reload_state (len : Word) : (reload len s).state = s.seed := rfl
@[simp] theorem reload_seed (len : Word) : (reload len s).seed = s.seed := rfl
@[simp] theorem reload_mask (len : Word) : (reload len s).mask = s.mask := rfl
@[simp] theorem reload_cnt (len : Word) : (reload len s).cnt = 0 := rfl
@[simp] theorem reload_rem (len : Word) : (reload len s).rem = len := rfl
@[simp] theorem reload_b1 (len : Word) : (reload len s).b1 = s.b1 := rfl
@[simp] theorem reload_out (len : Word) : (reload len s).out = s.out := rfl
@[simp] theorem reload_phase (len : Word) : (reload len s).phase = if len = 0#32 then .idle else .draw1 := rfl
@[simp] theorem reload_inited (len : Word) : (reload len s).inited = s.inited := rfl
@[simp] theorem reload_seedSubst (len : Word) : (reload len s).seedSubst = s.seedSubst := rfl
@[simp] theorem reload_fcause (len : Word) : (reload len s).fcause = s.fcause := rfl
@[simp] theorem reload_fop (len : Word) : (reload len s).fop = s.fop := rfl
@[simp] theorem reload_inputs (len : Word) : (reload len s).inputs = s.inputs := rfl
@[simp] theorem reload_sent (len : Word) : (reload len s).sent = s.sent := rfl

@[simp] theorem latchFirst_cfg (g : Word) (raw : Bool) : (latchFirst g raw s).cfg = s.cfg := rfl
@[simp] theorem latchFirst_state (g : Word) (raw : Bool) : (latchFirst g raw s).state = g := rfl
@[simp] theorem latchFirst_seed (g : Word) (raw : Bool) : (latchFirst g raw s).seed = s.seed := rfl
@[simp] theorem latchFirst_mask (g : Word) (raw : Bool) : (latchFirst g raw s).mask = s.mask := rfl
@[simp] theorem latchFirst_cnt (g : Word) (raw : Bool) : (latchFirst g raw s).cnt = s.cnt := rfl
@[simp] theorem latchFirst_rem (g : Word) (raw : Bool) : (latchFirst g raw s).rem = s.rem := rfl
@[simp] theorem latchFirst_b1 (g : Word) (raw : Bool) : (latchFirst g raw s).b1 = raw := rfl
@[simp] theorem latchFirst_out (g : Word) (raw : Bool) : (latchFirst g raw s).out = s.out := rfl
@[simp] theorem latchFirst_phase (g : Word) (raw : Bool) : (latchFirst g raw s).phase = .draw2 := rfl
@[simp] theorem latchFirst_inited (g : Word) (raw : Bool) : (latchFirst g raw s).inited = s.inited := rfl
@[simp] theorem latchFirst_seedSubst (g : Word) (raw : Bool) : (latchFirst g raw s).seedSubst = s.seedSubst := rfl
@[simp] theorem latchFirst_fcause (g : Word) (raw : Bool) : (latchFirst g raw s).fcause = s.fcause := rfl
@[simp] theorem latchFirst_fop (g : Word) (raw : Bool) : (latchFirst g raw s).fop = s.fop := rfl
@[simp] theorem latchFirst_inputs (g : Word) (raw : Bool) : (latchFirst g raw s).inputs = s.inputs := rfl
@[simp] theorem latchFirst_sent (g : Word) (raw : Bool) : (latchFirst g raw s).sent = s.sent := rfl

@[simp] theorem acceptPair_cfg (g : Word) : (acceptPair g s).cfg = s.cfg := rfl
@[simp] theorem acceptPair_state (g : Word) : (acceptPair g s).state = g := rfl
@[simp] theorem acceptPair_seed (g : Word) : (acceptPair g s).seed = s.seed := rfl
@[simp] theorem acceptPair_mask (g : Word) : (acceptPair g s).mask = s.mask := rfl
@[simp] theorem acceptPair_cnt (g : Word) : (acceptPair g s).cnt = 0 := rfl
@[simp] theorem acceptPair_rem (g : Word) : (acceptPair g s).rem = s.rem := rfl
@[simp] theorem acceptPair_b1 (g : Word) : (acceptPair g s).b1 = s.b1 := rfl
@[simp] theorem acceptPair_out (g : Word) : (acceptPair g s).out = s.b1 := rfl
@[simp] theorem acceptPair_phase (g : Word) : (acceptPair g s).phase = .emit := rfl
@[simp] theorem acceptPair_inited (g : Word) : (acceptPair g s).inited = s.inited := rfl
@[simp] theorem acceptPair_seedSubst (g : Word) : (acceptPair g s).seedSubst = s.seedSubst := rfl
@[simp] theorem acceptPair_fcause (g : Word) : (acceptPair g s).fcause = s.fcause := rfl
@[simp] theorem acceptPair_fop (g : Word) : (acceptPair g s).fop = s.fop := rfl
@[simp] theorem acceptPair_inputs (g : Word) : (acceptPair g s).inputs = s.inputs := rfl
@[simp] theorem acceptPair_sent (g : Word) : (acceptPair g s).sent = s.sent := rfl

@[simp] theorem discardPair_cfg (g : Word) : (discardPair g s).cfg = s.cfg := rfl
@[simp] theorem discardPair_state (g : Word) : (discardPair g s).state = g := rfl
@[simp] theorem discardPair_seed (g : Word) : (discardPair g s).seed = s.seed := rfl
@[simp] theorem discardPair_mask (g : Word) : (discardPair g s).mask = s.mask := rfl
@[simp] theorem discardPair_cnt (g : Word) : (discardPair g s).cnt = s.cnt + 1 := rfl
@[simp] theorem discardPair_rem (g : Word) : (discardPair g s).rem = s.rem := rfl
@[simp] theorem discardPair_b1 (g : Word) : (discardPair g s).b1 = s.b1 := rfl
@[simp] theorem discardPair_out (g : Word) : (discardPair g s).out = s.out := rfl
@[simp] theorem discardPair_phase (g : Word) : (discardPair g s).phase = if s.cnt + 1 > s.cfg.discardLimit then .valve else .draw1 := rfl
@[simp] theorem discardPair_inited (g : Word) : (discardPair g s).inited = s.inited := rfl
@[simp] theorem discardPair_seedSubst (g : Word) : (discardPair g s).seedSubst = s.seedSubst := rfl
@[simp] theorem discardPair_fcause (g : Word) : (discardPair g s).fcause = s.fcause := rfl
@[simp] theorem discardPair_fop (g : Word) : (discardPair g s).fop = s.fop := rfl
@[simp] theorem discardPair_inputs (g : Word) : (discardPair g s).inputs = s.inputs := rfl
@[simp] theorem discardPair_sent (g : Word) : (discardPair g s).sent = s.sent := rfl

@[simp] theorem fireValve_cfg : (fireValve s).cfg = s.cfg := rfl
@[simp] theorem fireValve_state : (fireValve s).state = add32 s.state (zext32 s.cnt) := rfl
@[simp] theorem fireValve_seed : (fireValve s).seed = s.seed := rfl
@[simp] theorem fireValve_mask : (fireValve s).mask = s.mask := rfl
@[simp] theorem fireValve_cnt : (fireValve s).cnt = 0 := rfl
@[simp] theorem fireValve_rem : (fireValve s).rem = s.rem := rfl
@[simp] theorem fireValve_b1 : (fireValve s).b1 = s.b1 := rfl
@[simp] theorem fireValve_out : (fireValve s).out = s.out := rfl
@[simp] theorem fireValve_phase : (fireValve s).phase = .draw1 := rfl
@[simp] theorem fireValve_inited : (fireValve s).inited = s.inited := rfl
@[simp] theorem fireValve_seedSubst : (fireValve s).seedSubst = s.seedSubst := rfl
@[simp] theorem fireValve_fcause : (fireValve s).fcause = s.fcause := rfl
@[simp] theorem fireValve_fop : (fireValve s).fop = s.fop := rfl
@[simp] theorem fireValve_inputs : (fireValve s).inputs = s.inputs := rfl
@[simp] theorem fireValve_sent : (fireValve s).sent = s.sent := rfl

@[simp] theorem transferBit_cfg : (transferBit s).cfg = s.cfg := rfl
@[simp] theorem transferBit_state : (transferBit s).state = s.state := rfl
@[simp] theorem transferBit_seed : (transferBit s).seed = s.seed := rfl
@[simp] theorem transferBit_mask : (transferBit s).mask = s.mask := rfl
@[simp] theorem transferBit_cnt : (transferBit s).cnt = s.cnt := rfl
@[simp] theorem transferBit_rem : (transferBit s).rem = s.rem - 1#32 := rfl
@[simp] theorem transferBit_b1 : (transferBit s).b1 = s.b1 := rfl
@[simp] theorem transferBit_out : (transferBit s).out = s.out := rfl
@[simp] theorem transferBit_phase : (transferBit s).phase = if s.rem = 1#32 then .idle else .draw1 := rfl
@[simp] theorem transferBit_inited : (transferBit s).inited = s.inited := rfl
@[simp] theorem transferBit_seedSubst : (transferBit s).seedSubst = s.seedSubst := rfl
@[simp] theorem transferBit_fcause : (transferBit s).fcause = s.fcause := rfl
@[simp] theorem transferBit_fop : (transferBit s).fop = s.fop := rfl
@[simp] theorem transferBit_inputs : (transferBit s).inputs = s.inputs := rfl
@[simp] theorem transferBit_sent : (transferBit s).sent = s.sent ++ [s.out] := rfl

@[simp] theorem tickPassed_cfg : (tickPassed s).cfg = s.cfg := rfl
@[simp] theorem tickPassed_state : (tickPassed s).state = s.state := rfl
@[simp] theorem tickPassed_seed : (tickPassed s).seed = s.seed := rfl
@[simp] theorem tickPassed_mask : (tickPassed s).mask = s.mask := rfl
@[simp] theorem tickPassed_cnt : (tickPassed s).cnt = s.cnt := rfl
@[simp] theorem tickPassed_rem : (tickPassed s).rem = s.rem := rfl
@[simp] theorem tickPassed_b1 : (tickPassed s).b1 = s.b1 := rfl
@[simp] theorem tickPassed_out : (tickPassed s).out = s.out := rfl
@[simp] theorem tickPassed_phase : (tickPassed s).phase = s.phase := rfl
@[simp] theorem tickPassed_inited : (tickPassed s).inited = s.inited := rfl
@[simp] theorem tickPassed_seedSubst : (tickPassed s).seedSubst = s.seedSubst := rfl
@[simp] theorem tickPassed_fcause : (tickPassed s).fcause = s.fcause := rfl
@[simp] theorem tickPassed_fop : (tickPassed s).fop = s.fop := rfl
@[simp] theorem tickPassed_inputs : (tickPassed s).inputs = s.inputs.tail := rfl
@[simp] theorem tickPassed_sent : (tickPassed s).sent = s.sent := rfl

@[simp] theorem withPins_cfg (i : TickIn) : (withPins i s).cfg = s.cfg := rfl
@[simp] theorem withPins_state (i : TickIn) : (withPins i s).state = s.state := rfl
@[simp] theorem withPins_seed (i : TickIn) : (withPins i s).seed = s.seed := rfl
@[simp] theorem withPins_mask (i : TickIn) : (withPins i s).mask = s.mask := rfl
@[simp] theorem withPins_cnt (i : TickIn) : (withPins i s).cnt = s.cnt := rfl
@[simp] theorem withPins_rem (i : TickIn) : (withPins i s).rem = s.rem := rfl
@[simp] theorem withPins_b1 (i : TickIn) : (withPins i s).b1 = s.b1 := rfl
@[simp] theorem withPins_out (i : TickIn) : (withPins i s).out = s.out := rfl
@[simp] theorem withPins_phase (i : TickIn) : (withPins i s).phase = s.phase := rfl
@[simp] theorem withPins_inited (i : TickIn) : (withPins i s).inited = s.inited := rfl
@[simp] theorem withPins_seedSubst (i : TickIn) : (withPins i s).seedSubst = s.seedSubst := rfl
@[simp] theorem withPins_fcause (i : TickIn) : (withPins i s).fcause = s.fcause := rfl
@[simp] theorem withPins_fop (i : TickIn) : (withPins i s).fop = s.fop := rfl
@[simp] theorem withPins_inputs (i : TickIn) : (withPins i s).inputs = i :: s.inputs.tail := rfl
@[simp] theorem withPins_sent (i : TickIn) : (withPins i s).sent = s.sent := rfl

@[simp] theorem withPins_pins (i : TickIn) : (withPins i s).pins = i := rfl
@[simp] theorem raise_pins (f : Fault) : (raise f s).pins = s.pins := rfl
@[simp] theorem resetRegs_pins : (resetRegs s).pins = s.pins := rfl
@[simp] theorem construct_pins (cand m : Word) : (construct cand m s).pins = s.pins := rfl
@[simp] theorem reload_pins (len : Word) : (reload len s).pins = s.pins := rfl
@[simp] theorem latchFirst_pins (g : Word) (raw : Bool) : (latchFirst g raw s).pins = s.pins := rfl
@[simp] theorem acceptPair_pins (g : Word) : (acceptPair g s).pins = s.pins := rfl
@[simp] theorem discardPair_pins (g : Word) : (discardPair g s).pins = s.pins := rfl
@[simp] theorem fireValve_pins : (fireValve s).pins = s.pins := rfl
@[simp] theorem transferBit_pins : (transferBit s).pins = s.pins := rfl

@[simp] theorem cause_reservedOp (op : Opcode) : (Fault.reservedOp op).cause = 1#2 := rfl
@[simp] theorem cause_genBeforeInit : Fault.genBeforeInit.cause = 2#2 := rfl
@[simp] theorem op_reservedOp (op : Opcode) : (Fault.reservedOp op).op = op := rfl
@[simp] theorem op_genBeforeInit : Fault.genBeforeInit.op = 8#4 := rfl

/-- Every fault has a nonzero cause, and never the unused one (R200). -/
theorem cause_ne (f : Fault) : f.cause ≠ 0#2 ∧ f.cause ≠ 3#2 := by cases f <;> simp

end Sys2Proof.Machine
end

