-- ==== Sys2Proof/Laws/Exec.lean ====
section
/-! SUPPORT. What each shared meaning can do: if it answers a next state, that state is one of those listed. -/

namespace Sys2Proof.Machine

variable {s t : State}

theorem execGen_next {len : Word} (h : execGen len s = .next t) :
    (s.inited = true ∧ t = reload len s) ∨ (s.inited = false ∧ t = raise .genBeforeInit s) := by
  unfold execGen at h
  split at h <;> rename_i hc <;> injection h with h
  · exact .inl ⟨hc, h.symm⟩
  · exact .inr ⟨by simpa using hc, h.symm⟩

theorem execEmit_next (h : execEmit s = .next t) :
    (s.pins.ksReady = true ∧ t = transferBit s) ∨ (s.pins.ksReady = false ∧ t = s) := by
  unfold execEmit at h
  split at h <;> rename_i hc <;> injection h with h
  · exact .inl ⟨hc, h.symm⟩
  · exact .inr ⟨by simpa using hc, h.symm⟩

theorem execDraw2_next (h : execDraw2 s = .next t) :
    (s.b1 ≠ (stepperStep s.cfg s.state s.mask).2
        ∧ t = acceptPair (stepperStep s.cfg s.state s.mask).1 s)
      ∨ (s.b1 = (stepperStep s.cfg s.state s.mask).2
        ∧ t = discardPair (stepperStep s.cfg s.state s.mask).1 s) := by
  unfold execDraw2 at h
  split at h <;> rename_i hc <;> injection h with h
  · exact .inl ⟨hc, h.symm⟩
  · exact .inr ⟨by simpa using hc, h.symm⟩

/-- Everything the execution of a command word can do (R72, R158). -/
inductive CommandCase (w : CmdWord) (s : State) : State → Prop where
  /-- An `INIT*`: the candidate and the mask are those of its form. -/
  | construct (cand m : Word) (hop : cmdOp w = 4#4 ∨ cmdOp w = 5#4 ∨ cmdOp w = 6#4 ∨ cmdOp w = 7#4) :
      CommandCase w s (construct cand m s)
  /-- A `GEN` of an initialised instance. -/
  | gen (hop : cmdOp w = 8#4) (hi : s.inited = true) : CommandCase w s (reload (cmdA w) s)
  /-- A `GEN` before any `INIT*`. -/
  | genFault (hop : cmdOp w = 8#4) (hi : s.inited = false) : CommandCase w s (raise .genBeforeInit s)
  /-- A reserved opcode. -/
  | reserved (hop : cmdOp w ≠ 4#4 ∧ cmdOp w ≠ 5#4 ∧ cmdOp w ≠ 6#4 ∧ cmdOp w ≠ 7#4 ∧ cmdOp w ≠ 8#4) :
      CommandCase w s (raise (.reservedOp (cmdOp w)) s)

theorem execCommand_next {w : CmdWord} (h : execCommand w s = .next t) : CommandCase w s t := by
  unfold execCommand at h
  split at h
  · injection h with h; subst h; exact .construct _ _ (.inl ‹_›)
  split at h
  · injection h with h; subst h; exact .construct _ _ (.inr (.inl ‹_›))
  split at h
  · injection h with h; subst h; exact .construct _ _ (.inr (.inr (.inl ‹_›)))
  split at h
  · injection h with h; subst h; exact .construct _ _ (.inr (.inr (.inr ‹_›)))
  split at h
  · obtain ⟨hi, rfl⟩ | ⟨hi, rfl⟩ := execGen_next h
    · exact .gen ‹_› hi
    · exact .genFault ‹_› hi
  · injection h with h; subst h; exact .reserved ⟨‹_›, ‹_›, ‹_›, ‹_›, ‹_›⟩

end Sys2Proof.Machine
end

