-- ==== Sys2Proof/Laws/PerInstr.lean ====
section
/-! SUPPORT. A statement about each instruction as syntax: its code lies in the instruction's own row of
spec/opcode_table.json (R85), that is, it has the row's width and matches the row's match under the row's mask. -/

namespace Sys2Proof.Laws.TableRow

/-- A row of spec/opcode_table.json: how many bits, and the `mask` and `match` numbers. -/
structure Row where
  width : Nat
  mask : Nat
  value : Nat
deriving DecidableEq, Repr

/-- The row of a command opcode: `mask` and `match` as R85 gives them. -/
def commandRow (op : Nat) : Row := { width := 68, mask := 0xF0000000000000000, value := op * 2 ^ 64 }

/-- The row of a phase code. -/
def phaseRow (c : Nat) : Row := { width := 3, mask := 0x7, value := c }

/-- The row of each instruction, in the table. -/
def row : Instr → Row
  | .init _ _ => commandRow 4
  | .initd _ _ => commandRow 5
  | .inits _ _ => commandRow 6
  | .initsd _ _ => commandRow 7
  | .gen _ _ => commandRow 8
  | .reserved0 _ _ => commandRow 0
  | .reserved1 _ _ => commandRow 1
  | .reserved2 _ _ => commandRow 2
  | .reserved3 _ _ => commandRow 3
  | .reserved9 _ _ => commandRow 9
  | .reservedA _ _ => commandRow 10
  | .reservedB _ _ => commandRow 11
  | .reservedC _ _ => commandRow 12
  | .reservedD _ _ => commandRow 13
  | .reservedE _ _ => commandRow 14
  | .reservedF _ _ => commandRow 15
  | .phaseIdle => phaseRow 0
  | .draw1 => phaseRow 1
  | .draw2 => phaseRow 2
  | .valve => phaseRow 3
  | .emit => phaseRow 4
  | .phaseUnreachable5 => phaseRow 5
  | .phaseUnreachable6 => phaseRow 6
  | .halt => phaseRow 7
  | .reset => { width := 1, mask := 0x1, value := 0x1 }

/-- The instruction's code is in its row. -/
def Statement (i : Instr) : Prop :=
  (encode i).width = (row i).width ∧ (encode i).number &&& (row i).mask = (row i).value

/-- The mask of a command row leaves the opcode field of a packed word. -/
theorem packCmd_and_mask (op : Opcode) (a b : Word) :
    (packCmd op a b).toNat &&& 0xF0000000000000000 = op.toNat * 2 ^ 64 := by
  have ho := op.isLt
  have ha := a.isLt
  have hb := b.isLt
  have hsplit : ∀ n m : Nat, n &&& (m <<< 64) = ((n >>> 64) &&& m) <<< 64 := by
    intro n m
    apply Nat.eq_of_testBit_eq
    intro i
    by_cases hi : 64 ≤ i <;>
      simp [Nat.testBit_and, Nat.testBit_shiftLeft, Nat.testBit_shiftRight, hi]
  have hop : (packCmd op a b).toNat >>> 64 = op.toNat := by
    rw [packCmd_toNat, Nat.shiftRight_eq_div_pow]
    omega
  have hmod : op.toNat &&& 15 = op.toNat := by
    rw [show (15 : Nat) = 2 ^ 4 - 1 from rfl, Nat.and_two_pow_sub_one_eq_mod]
    exact Nat.mod_eq_of_lt ho
  rw [show (0xF0000000000000000 : Nat) = 15 <<< 64 from rfl, hsplit, hop, hmod, Nat.shiftLeft_eq]

theorem init (a b : Word) : Statement (.init a b) := ⟨rfl, packCmd_and_mask _ a b⟩
theorem initd (a b : Word) : Statement (.initd a b) := ⟨rfl, packCmd_and_mask _ a b⟩
theorem inits (a b : Word) : Statement (.inits a b) := ⟨rfl, packCmd_and_mask _ a b⟩
theorem initsd (a b : Word) : Statement (.initsd a b) := ⟨rfl, packCmd_and_mask _ a b⟩
theorem gen (a b : Word) : Statement (.gen a b) := ⟨rfl, packCmd_and_mask _ a b⟩
theorem reserved0 (a b : Word) : Statement (.reserved0 a b) := ⟨rfl, packCmd_and_mask _ a b⟩
theorem reserved1 (a b : Word) : Statement (.reserved1 a b) := ⟨rfl, packCmd_and_mask _ a b⟩
theorem reserved2 (a b : Word) : Statement (.reserved2 a b) := ⟨rfl, packCmd_and_mask _ a b⟩
theorem reserved3 (a b : Word) : Statement (.reserved3 a b) := ⟨rfl, packCmd_and_mask _ a b⟩
theorem reserved9 (a b : Word) : Statement (.reserved9 a b) := ⟨rfl, packCmd_and_mask _ a b⟩
theorem reservedA (a b : Word) : Statement (.reservedA a b) := ⟨rfl, packCmd_and_mask _ a b⟩
theorem reservedB (a b : Word) : Statement (.reservedB a b) := ⟨rfl, packCmd_and_mask _ a b⟩
theorem reservedC (a b : Word) : Statement (.reservedC a b) := ⟨rfl, packCmd_and_mask _ a b⟩
theorem reservedD (a b : Word) : Statement (.reservedD a b) := ⟨rfl, packCmd_and_mask _ a b⟩
theorem reservedE (a b : Word) : Statement (.reservedE a b) := ⟨rfl, packCmd_and_mask _ a b⟩
theorem reservedF (a b : Word) : Statement (.reservedF a b) := ⟨rfl, packCmd_and_mask _ a b⟩
theorem phaseIdle : Statement .phaseIdle := ⟨rfl, rfl⟩
theorem draw1 : Statement .draw1 := ⟨rfl, rfl⟩
theorem draw2 : Statement .draw2 := ⟨rfl, rfl⟩
theorem valve : Statement .valve := ⟨rfl, rfl⟩
theorem emit : Statement .emit := ⟨rfl, rfl⟩
theorem phaseUnreachable5 : Statement .phaseUnreachable5 := ⟨rfl, rfl⟩
theorem phaseUnreachable6 : Statement .phaseUnreachable6 := ⟨rfl, rfl⟩
theorem halt : Statement .halt := ⟨rfl, rfl⟩
theorem reset : Statement .reset := ⟨rfl, rfl⟩

end Sys2Proof.Laws.TableRow
end

