-- ==== Sys2Proof/Laws/Prim.lean ====
section
/-! SUPPORT. What the primitives of Machine/Prim.lean compute, as numbers, and what a seed candidate becomes. -/

namespace Sys2Proof.Machine

theorem add32_toNat (a b : Word) : (add32 a b).toNat = (a.toNat + b.toNat) % 2 ^ 32 := BitVec.toNat_add a b

theorem shr1_toNat (a : Word) : (shr1 a).toNat = a.toNat / 2 := by
  simp [shr1, BitVec.toNat_ushiftRight, Nat.shiftRight_eq_div_pow]

theorem tpo32_toNat (a : Word) : (tpo32 a).toNat = (3 * a.toNat + 1) % 2 ^ 32 := by
  simp [tpo32, BitVec.toNat_add, BitVec.toNat_mul]

theorem zext32_toNat {n : Nat} (h : n < 2 ^ 32) : (zext32 n).toNat = n := by
  simp only [zext32, BitVec.toNat_ofNat]; omega

/-- The parity bit is the parity of the number. -/
theorem bit0_eq_decide (a : Word) : a.getLsbD 0 = decide (a.toNat % 2 = 1) := by
  simp [BitVec.getLsbD, Nat.testBit_zero]

theorem collatz_of_even {s : Word} (h : s.getLsbD 0 = false) : collatz s = shr1 s := by
  unfold collatz; rw [h]; rfl

theorem collatz_of_odd {s : Word} (h : s.getLsbD 0 = true) : collatz s = tpo32 s := by
  unfold collatz; rw [h]; rfl

theorem stepperStep_fst (p : Params) (s mask : Word) : (stepperStep p s mask).1 = collatzGuard p (collatz s) mask := rfl

theorem stepperStep_snd (p : Params) (s mask : Word) :
    (stepperStep p s mask).2 = extract p (stepperStep p s mask).1 mask := rfl

theorem normSeed_of_zero (p : Params) : normSeed p 0#32 = p.seedFallback := by simp [normSeed]

theorem normSeed_of_ne {p : Params} {c : Word} (h : c ≠ 0#32) : normSeed p c = c := by simp [normSeed, h]

/-- A normalised seed is nonzero where the fallback is (R23). -/
theorem normSeed_ne_zero {p : Params} (h : p.seedFallback ≠ 0#32) (c : Word) : normSeed p c ≠ 0#32 := by
  by_cases hc : c = 0#32
  · simpa [hc, normSeed_of_zero] using h
  · simpa [normSeed_of_ne hc] using hc

end Sys2Proof.Machine
end

