-- ==== Sys2Proof/Laws/Step.lean ====
section
/-! SUPPORT. What one tick does: one equation for each case of R150, and the inversion that says these are all. -/

namespace Sys2Proof.Machine

variable {s t : State}

@[simp] theorem decodePhase_idle : decodePhase Phase.idle.code = .phaseIdle := by decide
@[simp] theorem decodePhase_draw1 : decodePhase Phase.draw1.code = .draw1 := by decide
@[simp] theorem decodePhase_draw2 : decodePhase Phase.draw2.code = .draw2 := by decide
@[simp] theorem decodePhase_valve : decodePhase Phase.valve.code = .valve := by decide
@[simp] theorem decodePhase_emit : decodePhase Phase.emit.code = .emit := by decide
@[simp] theorem decodePhase_unreachable5 : decodePhase Phase.unreachable5.code = .phaseUnreachable5 := by decide
@[simp] theorem decodePhase_unreachable6 : decodePhase Phase.unreachable6.code = .phaseUnreachable6 := by decide
@[simp] theorem decodePhase_halt : decodePhase Phase.halt.code = .halt := by decide

/-- The phases in which nothing happens until reset (R27, R159). -/
def Phase.stuck (p : Phase) : Prop := p = .halt ∨ p = .unreachable5 ∨ p = .unreachable6

/-- Running the decoded command is running its word. -/
theorem exec_decodeCmd (w : CmdWord) (s : State) : exec (decodeCmd w) s = execCommand w s := by
  have key : ∀ op : Opcode, op = BitVec.ofNat 4 (8 * (op.getLsbD 3).toNat + 4 * (op.getLsbD 2).toNat
      + 2 * (op.getLsbD 1).toNat + (op.getLsbD 0).toNat) := by decide
  have hop := key (cmdOp w)
  unfold decodeCmd
  split <;> rename_i h3 h2 h1 h0 <;> rw [h3, h2, h1, h0] at hop <;>
    simp at hop <;> simp [exec, execCommand, hop, execReserved0, execReserved1, execReserved2, execReserved3,
      execReserved9, execReservedA, execReservedB, execReservedC, execReservedD, execReservedE, execReservedF]

theorem step_of_exec (h : exec (selected s) s = .next t) : step s = .next (tickPassed t) := by
  simp [step, h]

theorem selected_of_rst (h : s.pins.rst = true) : selected s = .reset := by simp [selected, h]

theorem selected_of_command (hr : s.pins.rst = false) (hp : s.phase = .idle) (hv : s.pins.cmdValid = true) :
    selected s = decodeCmd s.pins.cmd := by simp [selected, commandTransfer, cmdReady, hr, hp, hv]

theorem selected_of_idle (hr : s.pins.rst = false) (hp : s.phase = .idle) (hv : s.pins.cmdValid = false) :
    selected s = .phaseIdle := by simp [selected, commandTransfer, hr, hp, hv]

theorem selected_of_phase (hr : s.pins.rst = false) (hp : s.phase ≠ .idle) :
    selected s = decodePhase s.phase.code := by simp [selected, commandTransfer, cmdReady, hr, hp]

theorem step_reset (h : s.pins.rst = true) : step s = .next (tickPassed (resetRegs s)) :=
  step_of_exec (by rw [selected_of_rst h]; rfl)

theorem step_idle (hr : s.pins.rst = false) (hp : s.phase = .idle) (hv : s.pins.cmdValid = false) :
    step s = .next (tickPassed s) :=
  step_of_exec (by rw [selected_of_idle hr hp hv]; simp [exec, execPhaseIdle, hv])

theorem step_command (hr : s.pins.rst = false) (hp : s.phase = .idle) (hv : s.pins.cmdValid = true)
    (h : execCommand s.pins.cmd s = .next t) : step s = .next (tickPassed t) :=
  step_of_exec (by rw [selected_of_command hr hp hv, exec_decodeCmd, h])

theorem step_draw1 (hr : s.pins.rst = false) (hp : s.phase = .draw1) :
    step s = .next (tickPassed (latchFirst (stepperStep s.cfg s.state s.mask).1
      (stepperStep s.cfg s.state s.mask).2 s)) :=
  step_of_exec (by rw [selected_of_phase hr (by simp [hp]), hp, decodePhase_draw1]; rfl)

theorem step_accept (hr : s.pins.rst = false) (hp : s.phase = .draw2)
    (hb : s.b1 ≠ (stepperStep s.cfg s.state s.mask).2) :
    step s = .next (tickPassed (acceptPair (stepperStep s.cfg s.state s.mask).1 s)) :=
  step_of_exec (by
    rw [selected_of_phase hr (by simp [hp]), hp, decodePhase_draw2]; simp only [exec, execDraw2, if_pos hb])

theorem step_discard (hr : s.pins.rst = false) (hp : s.phase = .draw2)
    (hb : s.b1 = (stepperStep s.cfg s.state s.mask).2) :
    step s = .next (tickPassed (discardPair (stepperStep s.cfg s.state s.mask).1 s)) :=
  step_of_exec (by
    rw [selected_of_phase hr (by simp [hp]), hp, decodePhase_draw2]
    simp only [exec, execDraw2, if_neg (not_not.mpr hb)])

theorem step_valve (hr : s.pins.rst = false) (hp : s.phase = .valve) :
    step s = .next (tickPassed (fireValve s)) :=
  step_of_exec (by rw [selected_of_phase hr (by simp [hp]), hp, decodePhase_valve]; rfl)

theorem step_emit_wait (hr : s.pins.rst = false) (hp : s.phase = .emit) (hk : s.pins.ksReady = false) :
    step s = .next (tickPassed s) :=
  step_of_exec (by
    rw [selected_of_phase hr (by simp [hp]), hp, decodePhase_emit]; simp [exec, execEmit, hk])

theorem step_transfer (hr : s.pins.rst = false) (hp : s.phase = .emit) (hk : s.pins.ksReady = true) :
    step s = .next (tickPassed (transferBit s)) :=
  step_of_exec (by
    rw [selected_of_phase hr (by simp [hp]), hp, decodePhase_emit]; simp [exec, execEmit, hk])

theorem step_stuck (hr : s.pins.rst = false) (hp : s.phase.stuck) : step s = .next (tickPassed s) := by
  obtain hp | hp | hp := hp <;>
    exact step_of_exec (by rw [selected_of_phase hr (by simp [hp]), hp]; simp; rfl)

/-- Everything a tick can do (R150): the state it was in, and the state it leaves. -/
inductive StepCase (s : State) : State → Prop where
  /-- The reset transition. -/
  | reset (hr : s.pins.rst = true) : StepCase s (tickPassed (resetRegs s))
  /-- `IDLE` without a command. -/
  | idle (hr : s.pins.rst = false) (hp : s.phase = .idle) (hv : s.pins.cmdValid = false) :
      StepCase s (tickPassed s)
  /-- A command transfer. -/
  | command {t : State} (hr : s.pins.rst = false) (hp : s.phase = .idle) (hv : s.pins.cmdValid = true)
      (hc : CommandCase s.pins.cmd s t) : StepCase s (tickPassed t)
  /-- `DRAW1`. -/
  | draw1 (hr : s.pins.rst = false) (hp : s.phase = .draw1) :
      StepCase s (tickPassed (latchFirst (stepperStep s.cfg s.state s.mask).1
        (stepperStep s.cfg s.state s.mask).2 s))
  /-- An accepting `DRAW2`. -/
  | accept (hr : s.pins.rst = false) (hp : s.phase = .draw2)
      (hb : s.b1 ≠ (stepperStep s.cfg s.state s.mask).2) :
      StepCase s (tickPassed (acceptPair (stepperStep s.cfg s.state s.mask).1 s))
  /-- A discarding `DRAW2`. -/
  | discard (hr : s.pins.rst = false) (hp : s.phase = .draw2)
      (hb : s.b1 = (stepperStep s.cfg s.state s.mask).2) :
      StepCase s (tickPassed (discardPair (stepperStep s.cfg s.state s.mask).1 s))
  /-- `VALVE`. -/
  | valve (hr : s.pins.rst = false) (hp : s.phase = .valve) : StepCase s (tickPassed (fireValve s))
  /-- `EMIT`, waiting. -/
  | wait (hr : s.pins.rst = false) (hp : s.phase = .emit) (hk : s.pins.ksReady = false) :
      StepCase s (tickPassed s)
  /-- `EMIT`, transfer. -/
  | transfer (hr : s.pins.rst = false) (hp : s.phase = .emit) (hk : s.pins.ksReady = true) :
      StepCase s (tickPassed (transferBit s))
  /-- `HALT`, or a phase code that behaves as `HALT`. -/
  | stuck (hr : s.pins.rst = false) (hp : s.phase.stuck) : StepCase s (tickPassed s)

theorem step_next (h : step s = .next t) : StepCase s t := by
  cases hr : s.pins.rst with
  | true => rw [step_reset hr] at h; injection h with h; subst h; exact .reset hr
  | false =>
    cases hp : s.phase with
    | idle =>
      cases hv : s.pins.cmdValid with
      | false => rw [step_idle hr hp hv] at h; injection h with h; subst h; exact .idle hr hp hv
      | true =>
        cases hc : execCommand s.pins.cmd s with
        | next u =>
          rw [step_command hr hp hv hc] at h; injection h with h; subst h
          exact .command hr hp hv (execCommand_next hc)
        | fault r =>
          simp [step, selected_of_command hr hp hv, exec_decodeCmd, hc] at h
        | refused r =>
          simp [step, selected_of_command hr hp hv, exec_decodeCmd, hc] at h
    | draw1 => rw [step_draw1 hr hp] at h; injection h with h; subst h; exact .draw1 hr hp
    | draw2 =>
      by_cases hb : s.b1 = (stepperStep s.cfg s.state s.mask).2
      · rw [step_discard hr hp hb] at h; injection h with h; subst h; exact .discard hr hp hb
      · rw [step_accept hr hp hb] at h; injection h with h; subst h; exact .accept hr hp hb
    | valve => rw [step_valve hr hp] at h; injection h with h; subst h; exact .valve hr hp
    | emit =>
      cases hk : s.pins.ksReady with
      | false => rw [step_emit_wait hr hp hk] at h; injection h with h; subst h; exact .wait hr hp hk
      | true => rw [step_transfer hr hp hk] at h; injection h with h; subst h; exact .transfer hr hp hk
    | unreachable5 =>
      rw [step_stuck hr (.inr (.inl hp))] at h; injection h with h; subst h; exact .stuck hr (.inr (.inl hp))
    | unreachable6 =>
      rw [step_stuck hr (.inr (.inr hp))] at h; injection h with h; subst h; exact .stuck hr (.inr (.inr hp))
    | halt => rw [step_stuck hr (.inl hp)] at h; injection h with h; subst h; exact .stuck hr (.inl hp)

theorem ticks_zero (s : State) : ticks 0 s = .next s := rfl

theorem ticks_succ {n : Nat} (h : step s = .next t) : ticks (n + 1) s = ticks n t := by simp [ticks, h]

/-- A run of `m + n` ticks is a run of `m`, then one of `n`. -/
theorem ticks_add {m n : Nat} (h : ticks m s = .next t) : ticks (m + n) s = ticks n t := by
  induction m generalizing s with
  | zero => rw [ticks_zero] at h; injection h with h; simp [h]
  | succ m ih =>
    rw [Nat.succ_add]
    cases hs : step s with
    | next u => rw [ticks_succ hs] at h ⊢; exact ih h
    | fault r => simp [ticks, hs] at h
    | refused r => simp [ticks, hs] at h

theorem pinsAt_zero (s : State) : pinsAt s 0 = s.pins := by
  unfold pinsAt State.pins; cases s.inputs <;> rfl

theorem pinsAt_tickPassed (s : State) (k : Nat) : pinsAt (tickPassed s) k = pinsAt s (k + 1) := by
  simp only [pinsAt, tickPassed_inputs]; cases s.inputs <;> simp [List.getD]

/-- What one tick of a script's run does, from what the block's tick does. -/
theorem scriptTick_next {r : ScriptRun} (h : step (withPins (hostMove r.lines r.block).1 r.block) = .next t) :
    scriptTick r = .next {
      lines := (hostMove r.lines r.block).2
      block := t
      requests := recordTick (withPins (hostMove r.lines r.block).1 r.block) r.requests
      everFaulted := r.everFaulted || faultRecorded t } := by
  simp [scriptTick, h]

/-- A tick of a script's run never forgets a fault, not at a reset either, and notes one that the block records. -/
theorem scriptTick_everFaulted {r q : ScriptRun} (h : scriptTick r = .next q) :
    q.everFaulted = (r.everFaulted || faultRecorded q.block) := by
  unfold scriptTick at h
  split at h
  · injection h with h; subst h; rfl
  · cases h
  · cases h

/-- Once a run has faulted it stays so, for any number of ticks: it is never complete (R205). -/
theorem runScript_everFaulted {n : Nat} {r q : ScriptRun} (h : runScript n r = .next q)
    (hf : r.everFaulted = true) : q.everFaulted = true := by
  induction n generalizing r with
  | zero => simp only [runScript] at h; injection h with h; exact h ▸ hf
  | succ n ih =>
    simp only [runScript] at h
    split at h
    · exact ih h (by simp [scriptTick_everFaulted ‹_›, hf])
    · cases h
    · cases h

/-- A tick on which neither a command nor a bit is transferred leaves the requests as they are. -/
theorem recordTick_of_no_transfer {rs : List Request} (hc : commandTransfer s = false) (hb : bitTransfer s = false) :
    recordTick s rs = rs := by simp [recordTick, hc, hb]

end Sys2Proof.Machine
end

