-- ==== Sys2Proof/Tests/Slice0.lean ====
section
/-! SUPPORT. The model's own tests: words written out from the encodings of spec/30_encoding.md, ill-formed terms for
each check, one-step tests whose expected values are those of spec/95_test_vectors.md (or hand calculation from the
rule named), and a witness for the hypotheses of every obligation that has some. -/

namespace Sys2Proof.Tests

open Sys2Proof.Machine Sys2Proof.Claims

/-! ### Decoding -/

/-- R72, R84: one word of each command row, written out field by field: op, A, B. -/
theorem test_decode_commands :
    decodeCmd 0b0100_00000000000000000000011110000011_10100101101001011010010110100101#68
        = .init 1923#32 0xA5A5A5A5#32
      ∧ decodeCmd 0b0101_00000000000000000000011110000011_00000000000000000000000000000000#68
        = .initd 1923#32 0#32
      ∧ decodeCmd 0b0110_11111111111111111111100001111101_10100101101001011010010110100101#68
        = .inits 0xFFFFF87D#32 0xA5A5A5A5#32
      ∧ decodeCmd 0b0111_11111111111111111111111111111111_00000000000000000000000000000000#68
        = .initsd 0xFFFFFFFF#32 0#32
      ∧ decodeCmd 0b1000_00000000000000000000000100110000_00000000000000000000000000000001#68
        = .gen 304#32 1#32 := by decide

/-- R73: the eleven reserved opcodes, with the top bit of `A` and the low bit of `B` set. -/
theorem test_decode_reserved :
    decodeCmd 0x08000000000000001#68 = .reserved0 0x80000000#32 1#32
      ∧ decodeCmd 0x18000000000000001#68 = .reserved1 0x80000000#32 1#32
      ∧ decodeCmd 0x28000000000000001#68 = .reserved2 0x80000000#32 1#32
      ∧ decodeCmd 0x38000000000000001#68 = .reserved3 0x80000000#32 1#32
      ∧ decodeCmd 0x98000000000000001#68 = .reserved9 0x80000000#32 1#32
      ∧ decodeCmd 0xA8000000000000001#68 = .reservedA 0x80000000#32 1#32
      ∧ decodeCmd 0xB8000000000000001#68 = .reservedB 0x80000000#32 1#32
      ∧ decodeCmd 0xC8000000000000001#68 = .reservedC 0x80000000#32 1#32
      ∧ decodeCmd 0xD8000000000000001#68 = .reservedD 0x80000000#32 1#32
      ∧ decodeCmd 0xE8000000000000001#68 = .reservedE 0x80000000#32 1#32
      ∧ decodeCmd 0xF8000000000000001#68 = .reservedF 0x80000000#32 1#32 := by decide

/-- R27, R80: the eight phase codes. -/
theorem test_decode_phases :
    decodePhase 0b000#3 = .phaseIdle ∧ decodePhase 0b001#3 = .draw1 ∧ decodePhase 0b010#3 = .draw2
      ∧ decodePhase 0b011#3 = .valve ∧ decodePhase 0b100#3 = .emit ∧ decodePhase 0b101#3 = .phaseUnreachable5
      ∧ decodePhase 0b110#3 = .phaseUnreachable6 ∧ decodePhase 0b111#3 = .halt := by decide

/-- R52, R230: the pin `rst` selects the reset transition only where it is 1. -/
theorem test_decode_pin :
    decodeTableWord 1 1 = some .reset ∧ decodeTableWord 1 0 = none ∧ decode (.pin false) = .error .resetNotAsserted
    := ⟨rfl, rfl, rfl⟩

/-- Bits that are no code are rejected by name; the table's bits, as they stand or in whole bytes, are read. -/
theorem test_decode_table_words :
    decodeTableWord 68 0x80000000800000000 = some (.gen 8#32 0#32)
      ∧ decodeTableWord 72 0x80000000800000000 = some (.gen 8#32 0#32)
      ∧ decodeTableWord 3 0b100 = some .emit ∧ decodeTableWord 8 0b100 = some .emit
      ∧ codeOfBits 3 8 = .error .bitsBeyondTop ∧ codeOfBits 72 (2 ^ 68) = .error .bitsBeyondTop
      ∧ codeOfBits 1 2 = .error .bitsBeyondTop ∧ codeOfBits 0 0 = .error .noSuchWidth
      ∧ codeOfBits 73 0 = .error .noSuchWidth := ⟨rfl, rfl, rfl, rfl, rfl, rfl, rfl, rfl, rfl⟩

/-- R82, R84: the signed script lines, and the lines that cannot be written. -/
theorem test_script_words :
    (ScriptLine.inits (-1923) 0xA5A5A5A5).word = some 0x6FFFFF87DA5A5A5A5#68
      ∧ (ScriptLine.initsd (-1)).word = some 0x7FFFFFFFF00000000#68
      ∧ (Pseudo.construct (-1923) none).expand = .initsd (-1923)
      ∧ (Pseudo.construct 1923 (some 7)).expand = .init 1923 7
      ∧ (Pseudo.encrypt 304).expand = .gen 304 := by decide

/-- R190: a seed that its field cannot hold has no word, not the word of the seed modulo 2^32. -/
theorem test_script_no_word :
    (ScriptLine.initd (2 ^ 32 + 1)).word = none ∧ (ScriptLine.inits (-(2 ^ 31) - 1) 0).word = none
      ∧ (ScriptLine.gen (2 ^ 32)).word = none ∧ (hostMove [.initd (2 ^ 32 + 1)] State.reset).1.cmdValid = false := by
  decide

/-! ### Ill-formed terms -/

/-- R7: each check refuses a parameter record that breaks it alone. -/
theorem test_params_wf :
    Params.standard.wf = true
      ∧ { Params.standard with rot := 0 }.wf = false ∧ { Params.standard with rot := 32 }.wf = false
      ∧ { Params.standard with cntW := 33 }.wf = false
      ∧ { Params.standard with discardLimit := 1023 }.wf = false
      ∧ { Params.standard with discardLimit := 1022 }.wf = true
      ∧ { Params.standard with stateFallback := 0#32 }.wf = false
      ∧ { Params.standard with seedFallback := 0#32 }.wf = false := by decide

/-- R78: an ignored field that is not 0 is ill formed; a used one may hold anything. -/
theorem test_instr_wf :
    (Instr.initd 1#32 1#32).wf = false ∧ (Instr.initsd 1#32 1#32).wf = false ∧ (Instr.gen 1#32 1#32).wf = false
      ∧ (Instr.reserved0 1#32 0#32).wf = false ∧ (Instr.reserved1 0#32 1#32).wf = false
      ∧ (Instr.reserved2 1#32 0#32).wf = false ∧ (Instr.reserved3 0#32 1#32).wf = false
      ∧ (Instr.reserved9 1#32 0#32).wf = false ∧ (Instr.reservedA 0#32 1#32).wf = false
      ∧ (Instr.reservedB 1#32 0#32).wf = false ∧ (Instr.reservedC 0#32 1#32).wf = false
      ∧ (Instr.reservedD 1#32 0#32).wf = false ∧ (Instr.reservedE 0#32 1#32).wf = false
      ∧ (Instr.reservedF 1#32 0#32).wf = false
      ∧ (Instr.init 1#32 1#32).wf = true ∧ (Instr.gen 1#32 0#32).wf = true := by decide

/-- R77, R82, R190: a number that its field cannot hold cannot be written. -/
theorem test_script_wf :
    (ScriptLine.init (2 ^ 32) 0).wf = false ∧ (ScriptLine.init 0 (2 ^ 32)).wf = false
      ∧ (ScriptLine.initd (2 ^ 32)).wf = false ∧ (ScriptLine.inits (-(2 ^ 31) - 1) 0).wf = false
      ∧ (ScriptLine.inits 0 (2 ^ 32)).wf = false ∧ (ScriptLine.initsd (2 ^ 32)).wf = false
      ∧ (ScriptLine.gen (2 ^ 32)).wf = false ∧ (ScriptLine.raw (2 ^ 68)).wf = false := by decide

/-! ### One step of each instruction -/

/-- The state a result holds, where it is a next state. -/
def got : Result → Option State
  | .next t => some t
  | .fault _ => none
  | .refused _ => none

/-- A field of the state `i` leaves, run on `s`. -/
def after {α : Type} (i : Instr) (s : State) (f : State → α) : Option α := (got (exec i s)).map f

/-- A state in a phase, with a host that drives `t` at this tick. -/
def inPhase (p : Phase) (t : TickIn) : State := { State.reset with phase := p, inputs := [t] }

/-- A host that is ready for a bit. -/
def ready : TickIn := { TickIn.quiet with ksReady := true }

/-- A host that offers a command, and is ready for a bit. -/
def offering (w : CmdWord) : TickIn := { ready with cmdValid := true, cmd := w }

/-- A host that asserts `rst`. -/
def resetting : TickIn := { TickIn.quiet with rst := true }

/-- An instance with a seed and a mask, whose host drives these inputs. -/
def keyed (seed mask : Word) (inputs : List TickIn) : State :=
  { State.reset with seed := seed, state := seed, mask := mask, inited := true, inputs := inputs }

/-- V-INIT: `INIT 1923, 0x5A5A5A5A`, and the zero seed. -/
theorem test_init :
    after (.init 1923#32 0x5A5A5A5A#32) State.reset (fun t => (t.seed, t.state, t.mask, status t))
        = some (0x783#32, 0x783#32, 0x5A5A5A5A#32, 0x0002#16)
      ∧ after (.init 0#32 0xA5A5A5A5#32) State.reset (fun t => (t.seed, t.state, t.mask, status t))
        = some (0x3039#32, 0x3039#32, 0xA5A5A5A5#32, 0x0006#16) := by decide

/-- V-INIT: `INITD 1923` with junk in `B`. -/
theorem test_initd :
    after (.initd 1923#32 0x0BADF00D#32) { State.reset with mask := 1#32 }
        (fun t => (t.seed, t.state, t.mask, status t))
      = some (0x783#32, 0x783#32, 0xA5A5A5A5#32, 0x0002#16) := by decide

/-- V-INIT: `INITS -1923`. -/
theorem test_inits :
    after (.inits 0xFFFFF87D#32 0xA5A5A5A5#32) State.reset (fun t => (t.seed, t.state, t.mask, status t))
      = some (0x783#32, 0x783#32, 0xA5A5A5A5#32, 0x0002#16) := by decide

/-- V-INIT: `INITSD -1` and `INITSD -2^31`. -/
theorem test_initsd :
    after (.initsd 0xFFFFFFFF#32 0#32) State.reset (fun t => (t.seed, t.state)) = some (1#32, 1#32)
      ∧ after (.initsd 0x80000000#32 0#32) State.reset (fun t => (t.seed, t.state, t.seedSubst))
        = some (0x80000000#32, 0x80000000#32, false) := by decide

/-- R153, R154: `GEN` reloads `state` from `seed`; length 0 stays in `IDLE`; length 1 draws. -/
theorem test_gen :
    after (.gen 1#32 7#32) { keyed 1923#32 0#32 [] with state := 5#32, cnt := 9 }
        (fun t => (t.state, t.cnt, t.rem, t.phase)) = some (1923#32, 0, 1#32, .draw1)
      ∧ after (.gen 0#32 0#32) { keyed 1923#32 0#32 [] with state := 5#32 } (fun t => (t.state, t.phase))
        = some (1923#32, .idle) := by decide

/-- R202, R32: `GEN` before `INIT*`: `FOP` 8, `FCAUSE` 2, `FAULT`. -/
theorem test_gen_before_init :
    after (.gen 0#32 0#32) State.reset (fun t => (t.phase, status t)) = some (.halt, 0x0828#16) := by decide

/-- R201, R32: each reserved opcode: `FOP` its own, `FCAUSE` 1, `FAULT`. -/
theorem test_reserved :
    after (.reserved0 1#32 2#32) State.reset status = some 0x0018#16
      ∧ after (.reserved1 1#32 2#32) State.reset status = some 0x0118#16
      ∧ after (.reserved2 1#32 2#32) State.reset status = some 0x0218#16
      ∧ after (.reserved3 1#32 2#32) State.reset status = some 0x0318#16
      ∧ after (.reserved9 1#32 2#32) State.reset status = some 0x0918#16
      ∧ after (.reservedA 1#32 2#32) State.reset status = some 0x0A18#16
      ∧ after (.reservedB 1#32 2#32) State.reset status = some 0x0B18#16
      ∧ after (.reservedC 1#32 2#32) State.reset status = some 0x0C18#16
      ∧ after (.reservedD 1#32 2#32) State.reset status = some 0x0D18#16
      ∧ after (.reservedE 1#32 2#32) State.reset status = some 0x0E18#16
      ∧ after (.reservedF 1#32 2#32) State.reset status = some 0x0F18#16 := by decide

/-- R158: `IDLE` without a command, and with one. -/
theorem test_phase_idle :
    after .phaseIdle (inPhase .idle ready) id = some (inPhase .idle ready)
      ∧ after .phaseIdle (inPhase .idle (offering 0x50000078300000000#68)) (fun t => (t.seed, t.phase))
        = some (0x783#32, .idle) := by decide

/-- V-STEP, rows 0x783 (no guard) and 2 (guard). -/
theorem test_draw1 :
    after .draw1 { State.reset with state := 0x783#32, b1 := true } (fun t => (t.state, t.b1, t.phase))
        = some (0x168A#32, false, .draw2)
      ∧ after .draw1 { State.reset with state := 2#32 } (fun t => (t.state, t.b1))
        = some (0xA5A5A62F#32, false) := by decide

/-- V-NBB, pair corners: accept (0,1) with `cnt` = 17, and discard (1,1) at the limit (the rows of V-STEP with raw 1:
0x10000000). -/
theorem test_draw2 :
    after .draw2 { State.reset with state := 0x10000000#32, cnt := 17, out := true }
        (fun t => (t.state, t.out, t.cnt, t.phase)) = some (0x08000000#32, false, 0, .emit)
      ∧ after .draw2 { State.reset with state := 0x10000000#32, b1 := true, cnt := 1000 }
        (fun t => (t.state, t.out, t.cnt, t.phase)) = some (0x08000000#32, false, 1001, .valve) := by decide

/-- The table of R138's vectors: the first firing of V-HANG (a), and the sum that wraps to 0. -/
theorem test_valve :
    after .valve { State.reset with state := 0xD0#32, cnt := 1001 } (fun t => (t.state, t.cnt, t.phase))
        = some (0x4B9#32, 0, .draw1)
      ∧ after .valve { State.reset with state := 0xFFFFFC17#32, cnt := 1001 } (fun t => t.state)
        = some 0#32 := by decide

/-- R156, R157: the host waits; the last bit of a request is taken. -/
theorem test_emit :
    after .emit (inPhase .emit TickIn.quiet) id = some (inPhase .emit TickIn.quiet)
      ∧ after .emit { inPhase .emit ready with rem := 1#32, out := true } (fun t => (t.rem, t.phase, t.sent))
        = some (0#32, .idle, [true]) := by decide

/-- R27, R159: nothing happens in `HALT`, nor in the codes that behave so. -/
theorem test_halt :
    after .halt (inPhase .halt (offering 0x50000078300000000#68)) id
        = some (inPhase .halt (offering 0x50000078300000000#68))
      ∧ after .phaseUnreachable5 (inPhase .unreachable5 ready) id = some (inPhase .unreachable5 ready)
      ∧ after .phaseUnreachable6 (inPhase .unreachable6 ready) id = some (inPhase .unreachable6 ready) := by decide

/-- R230: reset out of a fault in the middle of everything. -/
theorem test_reset :
    after .reset
        { State.reset with state := 1#32, seed := 2#32, mask := 3#32, cnt := 4, rem := 5#32, b1 := true, out := true,
                           phase := .halt, inited := true, seedSubst := true, fcause := 2#2, fop := 8#4 } id
      = some State.reset := by decide

/-- R150: a tick with `rst` resets although a command is offered; one without runs the command and spends the
tick's inputs. -/
theorem test_step_priority :
    (got (step (inPhase .idle { offering 0x50000078300000000#68 with rst := true }))).map (fun t => t.seed)
        = some 0x3039#32
      ∧ (got (step (inPhase .idle (offering 0x50000078300000000#68)))).map (fun t => (t.seed, t.inputs))
        = some (0x783#32, []) := by decide

/-- A placed instruction is the one that runs: a command, a phase and the pin. -/
theorem test_withFetchWord :
    (got (step (State.reset.withFetchWord 68 0x40000078300000001))).map (fun t => (t.seed, t.mask))
        = some (0x783#32, 1#32)
      ∧ (got (step (State.reset.withFetchWord 3 3))).map (fun t => t.phase) = some .draw1
      ∧ (got (step ({ State.reset with seed := 7#32 }.withFetchWord 1 1))).map (fun t => t.seed)
        = some 0x3039#32 := by decide

/-! ### Runs of a script -/

/-- The run a script result is, where it is a next one. -/
def gotRun : Host.Outcome ScriptRun Fault Refusal → Option ScriptRun
  | .next r => some r
  | .fault _ => none
  | .refused _ => none

/-- R167: a `GEN` that faulted has had none of its bits transferred, and no reset after it makes the run complete. -/
theorem test_run_incomplete :
    ∃ r, gotRun (runScript 2 (.start [.gen 8, .reset] State.reset)) = some r ∧ r.lines = []
      ∧ r.block.phase = .idle ∧ r.requests = [{ length := 8, taken := 0 }] ∧ ¬ Complete r :=
  ⟨_, rfl, rfl, rfl, rfl, by unfold Complete NeverFaulted Faulted; decide⟩

/-- R205: a run that faulted is not complete although a reset cleared the fault and every `GEN` of it asked for no
bit. -/
theorem test_run_faulted :
    (∃ r, gotRun (runScript 2 (.start [.gen 0, .reset] State.reset)) = some r ∧ r.lines = []
        ∧ ¬ Faulted r.block ∧ r.delivered = true ∧ ¬ NeverFaulted r ∧ ¬ Complete r)
      ∧ ∃ r, gotRun (runScript 2 (.start [.raw 0, .reset] State.reset)) = some r ∧ r.lines = []
        ∧ ¬ Faulted r.block ∧ r.delivered = true ∧ ¬ NeverFaulted r ∧ ¬ Complete r :=
  ⟨⟨_, rfl, by unfold Complete NeverFaulted Faulted; decide⟩,
    ⟨_, rfl, by unfold Complete NeverFaulted Faulted; decide⟩⟩

/-- R167, V-NBB: the seed 0xA5A5A62F gives its first bit after one pair: five ticks with the `INITD` and the `GEN`; one
tick before, the run is not complete. -/
theorem test_run_complete :
    (∃ r, gotRun (runScript 5 (.start [.initd 0xA5A5A62F, .gen 1] State.reset)) = some r ∧ Complete r
        ∧ r.block.sent = [false])
      ∧ ∃ r, gotRun (runScript 4 (.start [.initd 0xA5A5A62F, .gen 1] State.reset)) = some r ∧ ¬ Complete r :=
  ⟨⟨_, rfl, by unfold Complete NeverFaulted Faulted; decide, rfl⟩, ⟨_, rfl, by unfold Complete NeverFaulted Faulted; decide⟩⟩

/-! ### Values of the spec's functions -/

/-- V-STEP: the guard from `t = 1` and `t = 0`, the fallback, the wrap of an odd state, and a mask that inverts. -/
theorem test_stepper :
    stepperStep Params.standard 0x55555555#32 0xA5A5A5A5#32 = (0xA5A5A62E#32, false)
      ∧ stepperStep Params.standard 2#32 0xFFFFFF76#32 = (0x3039#32, true)
      ∧ stepperStep Params.standard 2#32 0xFFFFFF77#32 = (1#32, true)
      ∧ stepperStep Params.standard 0xFFFFFFFF#32 0xA5A5A5A5#32 = (0xFFFFFFFE#32, true)
      ∧ stepperStep Params.standard 0x10000000#32 0xFFFFFFFF#32 = (0x08000000#32, false) := by decide

/-- S2: rotation. -/
theorem test_rotl32 :
    rotl32 0x80000000#32 5 = 0x10#32 ∧ rotl32 0xDDDDDCE2#32 5 = 0xBBBB9C5B#32
      ∧ rotl32 0xBBBB9C5B#32 27 = 0xDDDDDCE2#32 := by decide

/-- V-NBB: (1,1) and (0,0) discarded, then (1,0). -/
theorem test_next_balanced_bit :
    nextBalancedBit Params.standard 0xA5A5A5A5#32 3 0xB1E1E5FC#32
        = some { state := 0x640F115F#32, bit := true, pairs := 3, firings := 0 }
      ∧ nextBalancedBit Params.standard 0xA5A5A5A5#32 2 0xB1E1E5FC#32 = none := by decide

/-! ### Witnesses: a concrete case for the hypotheses of each obligation that has some, clause by clause -/

/-- A host that asserts nothing more asserts no reset. -/
theorem noReset_of_no_inputs {s : State} (n : Nat) (h : s.inputs = []) : NoReset n s := by
  intro k _
  simp [pinsAt, h, TickIn.quiet]

/-- DecodingIsTheOpcodeMap: every opcode, with the operand fields full. -/
theorem test_witness_decoding :
    ∀ op : Opcode, (packCmd op 0xFFFFFFFF#32 0xFFFFFFFF#32).toNat
      = op.toNat * 2 ^ 64 + (0xFFFFFFFF#32).toNat * 2 ^ 32 + (0xFFFFFFFF#32).toNat := by decide

/-- ScriptLinesStandForTheirWords: each form at the ends of its range. -/
theorem test_witness_script :
    (ScriptLine.init 0xFFFFFFFF 0).wf = true ∧ (ScriptLine.initd 0xFFFFFFFF).wf = true
      ∧ (ScriptLine.inits (-(2 ^ 31)) 0xFFFFFFFF).wf = true ∧ (ScriptLine.inits 0xFFFFFFFF 0).wf = true
      ∧ (ScriptLine.initsd (-(2 ^ 31))).wf = true ∧ (ScriptLine.initsd (-1)).wf = true
      ∧ (ScriptLine.gen 0).wf = true ∧ (ScriptLine.gen 0xFFFFFFFF).wf = true
      ∧ (ScriptLine.raw (2 ^ 68 - 1)).wf = true := by decide

/-- CollatzTransitionHalvesOrTriples: an even state, an odd one, and an odd one on which the guard is quiet. -/
theorem test_witness_collatz :
    (0#32).toNat % 2 = 0 ∧ (0xFFFFFFFF#32).toNat % 2 = 1 ∧ 2 ≤ (collatz 0xFFFFFFFF#32).toNat
      ∧ 2 ≤ (collatz 0xAAAAAAAB#32).toNat ∧ (0xAAAAAAAB#32).toNat % 2 = 1 := by decide

/-- OddStepIsFollowedByAnEvenStep: the odd states whose result is smallest and largest; and the odd step after which
the state is odd (its state is 0x55555555, V-STEP; its mask is 0, R104: 0 + 0 + 137). -/
theorem test_witness_odd_step :
    (1#32).toNat % 2 = 1 ∧ (0x55555555#32).toNat % 2 = 1
      ∧ (stepperStep Params.standard 0x55555555#32 0#32).1 = 137#32 := by decide

/-- GuardPerturbsZeroAndOne: the guard's sum not 0 and 0, from both results; the guard quiet. -/
theorem test_witness_guard :
    (1#32).toNat ≤ 1 ∧ (0#32).toNat ≤ 1
      ∧ (1 + (0xA5A5A5A5#32).toNat + Params.standard.guardK.toNat) % 2 ^ 32 ≠ 0
      ∧ (0 + (0xFFFFFF77#32).toNat + Params.standard.guardK.toNat) % 2 ^ 32 = 0
      ∧ (1 + (0xFFFFFF76#32).toNat + Params.standard.guardK.toNat) % 2 ^ 32 = 0
      ∧ 2 ≤ (2#32).toNat := by decide

/-- GuardFiresOnThreeStates: each of the three states. -/
theorem test_witness_guard_states :
    collatz 2#32 = 1#32 ∧ collatz 0#32 = 0#32 ∧ collatz 0x55555555#32 = 0#32 := by decide

/-- TrajectoryIgnoresMaskWhileGuardIsQuiet: the first steps from 1, up to the guard. -/
theorem test_witness_trajectory :
    2 ≤ (2#32).toNat
      ∧ (∀ k, k < 2 → 2 ≤ (collatz (trajectory Params.standard 0xA5A5A5A5#32 k 1#32)).toNat) := by decide

/-- RawBitIsBit27: the distance of R6, two masks with the same bit 27, and the ends of the range of R7. -/
theorem test_witness_raw_bit :
    Params.standard.rot = 5 ∧ (0x08000001#32).getLsbD 27 = (0xFFFFFFFF#32).getLsbD 27
      ∧ 0 < { Params.standard with rot := 1 }.rot ∧ { Params.standard with rot := 31 }.rot < 32 := by decide

/-- InitsTakesTheMagnitude, InitsdTakesTheMagnitudeAndTheDefaultMask: the greatest nonnegative operand. -/
theorem test_witness_inits : (0x7FFFFFFF#32).toNat ≤ 0x7FFFFFFF ∧ (0#32).toNat ≤ 0x7FFFFFFF := by decide

/-- GenBeforeInitFaults, and both clauses of GenReloadsAndStarts. -/
theorem test_witness_gen : State.reset.inited = false ∧ (keyed 1923#32 0#32 []).inited = true := by decide

/-- FaultsComeOnlyFromTheTwoCases: a reserved opcode, a `GEN` before `INIT*`, and a tick that is neither. -/
theorem test_witness_faults :
    (∃ t, (inPhase .idle (offering 0xF0000000000000000#68)).pins.rst = false
        ∧ step (inPhase .idle (offering 0xF0000000000000000#68)) = .next t
        ∧ commandTransfer (inPhase .idle (offering 0xF0000000000000000#68)) = true
        ∧ Reserved (cmdOp (inPhase .idle (offering 0xF0000000000000000#68)).pins.cmd))
      ∧ (∃ t, step (inPhase .idle (offering 0x80000000000000000#68)) = .next t
        ∧ commandTransfer (inPhase .idle (offering 0x80000000000000000#68)) = true
        ∧ cmdOp (inPhase .idle (offering 0x80000000000000000#68)).pins.cmd = 8#4
        ∧ (inPhase .idle (offering 0x80000000000000000#68)).inited = false)
      ∧ (∃ t, step (inPhase .draw1 ready) = .next t ∧ commandTransfer (inPhase .draw1 ready) = false) :=
  ⟨⟨_, rfl, rfl, by decide, by unfold Reserved; decide⟩, ⟨_, rfl, by decide⟩, ⟨_, rfl, by decide⟩⟩

/-- HaltHoldsUntilReset: the three phases that hold, and the reset that ends `HALT`. -/
theorem test_witness_halt :
    (∀ n, NoReset n { State.reset with phase := .halt }) ∧ { State.reset with phase := .halt }.phase = .halt
      ∧ (∀ n, NoReset n { State.reset with phase := .unreachable5 })
      ∧ (∀ n, NoReset n { State.reset with phase := .unreachable6 })
      ∧ ∃ t, step (inPhase .halt resetting) = .next t ∧ t.phase ≠ .halt :=
  ⟨fun n => noReset_of_no_inputs n rfl, rfl, fun n => noReset_of_no_inputs n rfl,
    fun n => noReset_of_no_inputs n rfl, _, rfl, by decide⟩

/-- Draw1StepsAndLatches: the state of its numeric clause. -/
theorem test_witness_draw1 :
    { State.reset with state := 0x783#32 }.cfg = Params.standard
      ∧ { State.reset with state := 0x783#32 }.mask = 0xA5A5A5A5#32
      ∧ { State.reset with state := 0x783#32 }.state = 0x00000783#32 := by decide

/-- Draw2JudgesThePair: the pairs (0,1), (1,0), (0,0) and (1,1); the count at the limit and below. -/
theorem test_witness_draw2 :
    extract Params.standard (collatzGuard Params.standard (collatz 0x10000000#32) 0xA5A5A5A5#32) 0xA5A5A5A5#32 = true
      ∧ extract Params.standard (collatzGuard Params.standard (collatz 0x783#32) 0xA5A5A5A5#32) 0xA5A5A5A5#32
        = false
      ∧ 1000 + 1 > Params.standard.discardLimit ∧ 999 + 1 ≤ Params.standard.discardLimit := by decide

/-- A reachable state in the middle of a request: `DRAW1`, one bit owed. -/
def drawing : State := { keyed 1923#32 0xA5A5A5A5#32 [] with rem := 1#32, phase := .draw1 }

/-- A reachable state whose valve is about to fire. -/
def atValve : State := { drawing with phase := .valve, cnt := 1001 }

/-- A reachable state with its last bit on offer, and a host that is ready for it. -/
def lastOffer : State := { drawing with phase := .emit, out := true, inputs := [ready] }

/-- The same with two bits owed. -/
def firstOffer : State := { lastOffer with rem := 2#32 }

/-- Inv: right after reset, while generating, at the valve, with a bit on offer, and faulted. -/
theorem test_witness_inv :
    Inv State.reset ∧ Inv drawing ∧ Inv { drawing with phase := .draw2, cnt := 1000 } ∧ Inv atValve ∧ Inv lastOffer
      ∧ Inv firstOffer ∧ Inv { State.reset with phase := .halt, fcause := 1#2, fop := 15#4 } := by
  refine ⟨?_, ?_, ?_, ?_, ?_, ?_, ?_⟩ <;> constructor <;> decide

/-- ValveAddsTheCount, CounterNeverWraps: the premises besides `Inv`. -/
theorem test_witness_counts :
    atValve.phase = .valve ∧ { drawing with phase := .draw2, cnt := 1000 }.phase = .draw2 := by decide

/-- EmitWaitsForTheHost, EmitTransfersTheBit: an unready host, for some ticks; a ready one; the last bit and one
before the last. -/
theorem test_witness_emit :
    (inPhase .emit TickIn.quiet).pins.ksReady = false ∧ (inPhase .emit TickIn.quiet).phase = .emit
      ∧ (∀ k, k < 5 → (pinsAt (inPhase .emit TickIn.quiet) k).rst = false
        ∧ (pinsAt (inPhase .emit TickIn.quiet) k).ksReady = false)
      ∧ lastOffer.pins.ksReady = true ∧ lastOffer.rem = 1#32
      ∧ firstOffer.pins.ksReady = true ∧ 2 ≤ firstOffer.rem.toNat := by decide

/-- IdleWaitsOrExecutes: no command, and a command. -/
theorem test_witness_idle :
    (inPhase .idle ready).pins.cmdValid = false
      ∧ (inPhase .idle (offering 0x50000078300000000#68)).pins.cmdValid = true
      ∧ (inPhase .idle ready).phase = .idle := by decide

/-- ResetRestoresEveryRegister: an instance with the default parameters. -/
theorem test_witness_reset_values : State.reset.cfg = Params.standard := rfl

/-- TickRunsTheSelectedInstruction, and the `rst` of ResetTickEstablishesTheInvariants: each row's premises. -/
theorem test_witness_tick :
    (inPhase .draw1 resetting).pins.rst = true ∧ (inPhase .draw1 resetting).cfg.wf = true
      ∧ (∀ p, (inPhase p ready).pins.rst = false ∧ (inPhase p ready).phase = p)
      ∧ (inPhase .idle (offering 0#68)).pins.rst = false ∧ (inPhase .idle (offering 0#68)).pins.cmdValid = true
      ∧ (inPhase .idle ready).pins.cmdValid = false
      ∧ (inPhase .emit ready).pins.ksReady = true
      ∧ (inPhase .emit TickIn.quiet).pins.rst = false ∧ (inPhase .emit TickIn.quiet).pins.ksReady = false :=
  ⟨rfl, by decide, fun p => ⟨rfl, rfl⟩, rfl, rfl, rfl, rfl, rfl, rfl⟩

/-- ResetTickEstablishesTheInvariants: from a state that meets none of the invariants' register clauses. -/
theorem test_witness_reset_tick :
    ∃ t, step { inPhase .unreachable5 resetting with cnt := 5000, fcause := 3#2 } = .next t := ⟨_, rfl⟩

/-- PlacedInstructionIsTheOneThatRuns: a command, a phase and the pin. -/
theorem test_witness_placed :
    decodeTableWord 72 0x50000078300000000 = some (.initd 0x783#32 0#32)
      ∧ decodeTableWord 8 7 = some .halt ∧ decodeTableWord 1 1 = some .reset := ⟨rfl, rfl, rfl⟩

/-- NextPhaseTable, the rows of `IDLE`. -/
theorem test_witness_next_phase_idle :
    (∃ t, step (inPhase .idle resetting) = .next t ∧ (inPhase .idle resetting).pins.rst = true)
      ∧ (∃ t, step (inPhase .idle ready) = .next t ∧ (inPhase .idle ready).pins.cmdValid = false)
      ∧ (∃ t, step (inPhase .idle (offering 0x70000000000000000#68)) = .next t
        ∧ Construction (cmdOp 0x70000000000000000#68))
      ∧ (∃ t, step (keyed 1#32 1#32 [offering 0x80000000000000000#68]) = .next t
        ∧ cmdOp 0x80000000000000000#68 = 8#4 ∧ cmdA 0x80000000000000000#68 = 0#32)
      ∧ (∃ t, step (keyed 1#32 1#32 [offering 0x80000000100000000#68]) = .next t
        ∧ cmdOp 0x80000000100000000#68 = 8#4 ∧ 1 ≤ (cmdA 0x80000000100000000#68).toNat)
      ∧ (∃ t, step (inPhase .idle (offering 0x80000000100000000#68)) = .next t ∧ State.reset.inited = false)
      ∧ (∃ t, step (inPhase .idle (offering 0x90000000000000000#68)) = .next t
        ∧ Reserved (cmdOp 0x90000000000000000#68)) :=
  ⟨⟨_, rfl, rfl⟩, ⟨_, rfl, rfl⟩, ⟨_, rfl, by unfold Construction; decide⟩, ⟨_, rfl, by decide⟩,
    ⟨_, rfl, by decide⟩, ⟨_, rfl, rfl⟩, ⟨_, rfl, by unfold Reserved; decide⟩⟩

/-- NextPhaseTable, the rows of `DRAW2` (accept, discard within the limit, discard beyond it) and of `EMIT`; the other
phases' rows have no premise but the phase. -/
theorem test_witness_next_phase_busy :
    { State.reset with state := 0x10000000#32 }.b1
        ≠ (stepperStep Params.standard 0x10000000#32 0xA5A5A5A5#32).2
      ∧ drawing.b1 = (stepperStep drawing.cfg drawing.state drawing.mask).2
      ∧ 999 + 1 ≤ drawing.cfg.discardLimit ∧ 1000 + 1 > drawing.cfg.discardLimit
      ∧ lastOffer.pins.ksReady = true ∧ lastOffer.rem = 1#32 ∧ 2 ≤ firstOffer.rem.toNat
      ∧ { lastOffer with inputs := [] }.pins.ksReady = false := by decide

/-- EveryTickKeepsTheInvariants: a tick from a state that meets them (`test_witness_inv`). -/
theorem test_witness_invariant_step : ∃ t, step atValve = .next t ∧ t.cnt = 0 ∧ t.phase = .draw1 :=
  ⟨_, rfl, by decide⟩

/-- An instance with the limit 0, about to discard its first pair. -/
def limitZero : State := { drawing with cfg := { Params.standard with discardLimit := 0 } }

/-- ValveFiresAfterLimitPlusOneDiscards: no pair, and the pair that makes the valve fire. -/
theorem test_witness_valve_fires :
    limitZero.phase = .draw1 ∧ limitZero.cnt = 0 ∧ 0 ≤ limitZero.cfg.discardLimit + 1
      ∧ 1 = limitZero.cfg.discardLimit + 1 ∧ AllDiscards limitZero.cfg limitZero.mask limitZero.state 1
      ∧ (∀ n, NoReset n limitZero) :=
  ⟨rfl, rfl, by decide, rfl, by unfold AllDiscards; decide, fun n => noReset_of_no_inputs n rfl⟩

/-- StateIsWrittenOnlyByTheListedTransitions, SeedAndMaskAreWrittenOnlyByConstruction: a tick of each kind that writes
`state`, and the two that write `seed`. -/
theorem test_witness_writers :
    (∃ t, step (keyed 1#32 1#32 [resetting]) = .next t ∧ t.state ≠ 1#32 ∧ t.seed ≠ 1#32)
      ∧ (∃ t, step (keyed 1#32 1#32 [offering 0x50000078300000000#68]) = .next t ∧ t.state ≠ 1#32 ∧ t.seed ≠ 1#32)
      ∧ (∃ t, step { keyed 1#32 1#32 [offering 0x80000000000000000#68] with state := 5#32 } = .next t
        ∧ t.state ≠ 5#32)
      ∧ (∃ t, step drawing = .next t ∧ t.state ≠ drawing.state)
      ∧ (∃ t, step { drawing with phase := .draw2 } = .next t ∧ t.state ≠ drawing.state)
      ∧ (∃ t, step atValve = .next t ∧ t.state ≠ atValve.state) :=
  ⟨⟨_, rfl, by decide⟩, ⟨_, rfl, by decide⟩, ⟨_, rfl, by decide⟩, ⟨_, rfl, by decide⟩, ⟨_, rfl, by decide⟩,
    ⟨_, rfl, by decide⟩⟩

/-- ChannelsAreIgnoredOutsideTheirPhase: inputs that differ only in the channel that is ignored. -/
theorem test_witness_channels :
    lastOffer.phase ≠ .idle ∧ (offering 1#68).rst = ready.rst ∧ (offering 1#68).ksReady = ready.ksReady
      ∧ offering 1#68 ≠ ready ∧ drawing.phase ≠ .emit ∧ ready.rst = TickIn.quiet.rst
      ∧ ready.cmdValid = TickIn.quiet.cmdValid ∧ ready.cmd = TickIn.quiet.cmd ∧ ready ≠ TickIn.quiet := by decide

/-- ResetForgetsEverything: two states that differ in every register group. -/
theorem test_witness_forget :
    resetting.rst = true ∧ atValve.cfg = State.reset.cfg ∧ atValve.inputs.tail = State.reset.inputs.tail
      ∧ atValve.sent = State.reset.sent ∧ atValve ≠ State.reset := by decide

/-- BitsAreHandedOverOnceAndKept, LastFlagMarksTheFinalBit, DeliveredPlusOwedIsConserved: a tick with a bit transfer,
the last and one before it, and a tick without one. -/
theorem test_witness_bits :
    (∃ t, step lastOffer = .next t ∧ bitTransfer lastOffer = true ∧ ksLast lastOffer = true)
      ∧ (∃ t, step firstOffer = .next t ∧ bitTransfer firstOffer = true ∧ ksLast firstOffer = false)
      ∧ (∃ t, step drawing = .next t ∧ bitTransfer drawing = false ∧ drawing.phase.busy = true
        ∧ drawing.pins.rst = false)
      ∧ (∃ t, step (keyed 1#32 1#32 [offering 0x80000000000000000#68]) = .next t
        ∧ GenTransferred (keyed 1#32 1#32 [offering 0x80000000000000000#68]) 0#32) :=
  ⟨⟨_, rfl, by decide⟩, ⟨_, rfl, by decide⟩, ⟨_, rfl, by decide⟩, ⟨_, rfl, by unfold GenTransferred; decide⟩⟩

/-- StatusWordFields: the premises of its first clause. -/
theorem test_witness_status :
    State.reset.phase ≠ .unreachable5 ∧ State.reset.phase ≠ .unreachable6 ∧ atValve.phase ≠ .unreachable5
      ∧ atValve.phase ≠ .unreachable6 := by decide

/-- MoreFuelGivesTheSameExtraction, ShorterRequestsArePrefixes: an extraction and a request of two bits (V-NBB: from
0xA5A5A62F one pair, 0; then from 0x78787947 one pair, 1). -/
theorem test_witness_functional :
    nbbLoop Params.standard 0xA5A5A5A5#32 1 0xA5A5A62F#32 0
        = some { state := 0x78787947#32, bit := false, pairs := 1, firings := 0 }
      ∧ generate Params.standard 0xA5A5A5A5#32 1 2 0xA5A5A62F#32
        = some { state := 0x34B4B5EB#32, bits := [false, true], pairs := 2, firings := 0 } := by decide

/-- SequencerRefinesNextBalancedBit, first clause: an extraction from `DRAW1`. -/
theorem test_witness_refinement :
    { drawing with state := 0xA5A5A62F#32 }.phase = .draw1 ∧ { drawing with state := 0xA5A5A62F#32 }.cnt = 0
      ∧ nextBalancedBit drawing.cfg drawing.mask 1 0xA5A5A62F#32
        = some { state := 0x78787947#32, bit := false, pairs := 1, firings := 0 }
      ∧ NoReset (2 * 1 + 0) { drawing with state := 0xA5A5A62F#32 } :=
  ⟨rfl, rfl, by decide, noReset_of_no_inputs _ rfl⟩

/-- With the limit 0 and the mask 0xFFFFFF79, the pair from 4 is discarded (4, 2, then the guard's 3) and the valve
makes 4 of 3: the extraction never ends. -/
theorem nextBalancedBit_limitZero_none (fuel : Nat) :
    nextBalancedBit { Params.standard with discardLimit := 0 } 0xFFFFFF79#32 fuel 4#32 = none := by
  unfold nextBalancedBit
  induction fuel with
  | zero => rfl
  | succ n ih =>
    have h1 : (stepperStep { Params.standard with discardLimit := 0 } 4#32 0xFFFFFF79#32) = (2#32, true) := by decide
    have h2 : (stepperStep { Params.standard with discardLimit := 0 } 2#32 0xFFFFFF79#32) = (3#32, true) := by decide
    have h3 : add32 3#32 (zext32 (0 + 1)) = 4#32 := by decide
    simp only [nbbLoop, h1, h2, h3, ih]
    rfl

/-- SequencerRefinesNextBalancedBit, second clause; HungExactlyWhereTheExtractionIsUndefined: an extraction that is
undefined. -/
theorem test_witness_undefined :
    { limitZero with mask := 0xFFFFFF79#32, state := 4#32 }.phase = .draw1
      ∧ { limitZero with mask := 0xFFFFFF79#32, state := 4#32 }.cnt = 0
      ∧ (∀ fuel, nextBalancedBit limitZero.cfg 0xFFFFFF79#32 fuel 4#32 = none)
      ∧ (∀ n, NoReset n { limitZero with mask := 0xFFFFFF79#32, state := 4#32 }) :=
  ⟨rfl, rfl, nextBalancedBit_limitZero_none, fun n => noReset_of_no_inputs n rfl⟩

/-- An instance whose host asks for one bit and stays ready. -/
def asking : State := keyed 0xA5A5A62F#32 0xA5A5A5A5#32 [offering 0x80000000100000000#68, ready, ready, ready]

/-- RequestDeliversTheGeneratedKeystream, AnyHostTakesThePrefixOfTheKeystream: a request of one bit, at every tick of
its run. -/
theorem test_witness_request :
    GenTransferred asking 1#32
      ∧ generate asking.cfg asking.mask 1 (1#32).toNat asking.seed
        = some { state := 0x78787947#32, bits := [false], pairs := 1, firings := 0 }
      ∧ ReadyHost asking (2 * 1 + 0 + 1)
      ∧ NoReset 4 asking ∧ (∀ j, 1 ≤ j → j < 4 → (pinsAt asking j).cmdValid = false)
      ∧ (∃ t, ticks 1 asking = .next t ∧ t.phase ≠ .idle) ∧ ∃ t, ticks 4 asking = .next t ∧ t.phase = .idle := by
  refine ⟨by unfold GenTransferred; decide, by decide, ?_, by unfold NoReset; decide, ?_, ⟨_, rfl, by decide⟩,
    ⟨_, rfl, by decide⟩⟩
  · intro k h1 h2
    match k, h2 with
    | 0, _ => omega
    | 1, _ => decide
    | 2, _ => decide
    | 3, _ => decide
    | n + 4, h => omega
  · intro k h1 h2
    match k, h2 with
    | 0, _ => omega
    | 1, _ => decide
    | 2, _ => decide
    | 3, _ => decide
    | n + 4, h => omega

/-- RequestStallsAtAnUndefinedExtraction: the seed whose first extraction is undefined, at the tick after the
`GEN`. -/
theorem test_witness_stall :
    GenTransferred { keyed 4#32 0xFFFFFF79#32 [offering 0x80000000100000000#68, ready] with cfg := limitZero.cfg } 1#32
      ∧ generate limitZero.cfg 0xFFFFFF79#32 0 0 4#32 = some { state := 4#32, bits := [], pairs := 0, firings := 0 }
      ∧ (∀ fuel, nextBalancedBit limitZero.cfg 0xFFFFFF79#32 fuel 4#32 = none) ∧ 1 + 2 * 0 + 0 + 0 ≤ 1
      ∧ ReadyHost { keyed 4#32 0xFFFFFF79#32 [offering 0x80000000100000000#68, ready] with cfg := limitZero.cfg } 1 := by
  refine ⟨by unfold GenTransferred; decide, rfl, nextBalancedBit_limitZero_none, by decide, ?_⟩
  intro k h1 h2
  obtain rfl : k = 1 := by omega
  decide

/-- SameSeedAndMaskSameBits: two instances that differ in the other registers, with a bit on offer in both. -/
theorem test_witness_same_bits :
    GenTransferred asking 1#32
      ∧ GenTransferred { asking with state := 5#32, cnt := 3, b1 := true, out := true, seedSubst := true } 1#32
      ∧ (∃ t, ticks (2 + 1) asking = .next t ∧ ksValid t = true)
      ∧ ∃ t, ticks (2 + 1) { asking with state := 5#32, cnt := 3, b1 := true, out := true, seedSubst := true }
        = .next t ∧ ksValid t = true :=
  ⟨by unfold GenTransferred; decide, by unfold GenTransferred; decide, ⟨_, rfl, by decide⟩, ⟨_, rfl, by decide⟩⟩

/-- StalledByHost: a bit on offer to a host that drives nothing. -/
theorem test_stalled : StalledByHost (inPhase .emit TickIn.quiet) :=
  ⟨rfl, fun k => by cases k <;> rfl⟩

/-- LimitOneHangsFromState2E, ZeroMaskHangsFromState3EE: their configurations. -/
theorem test_witness_hangs :
    (∀ n, NoReset n { drawing with cfg := { Params.standard with discardLimit := 1 }, state := 0x2E#32 })
      ∧ { drawing with state := 0x2E#32 }.mask = 0xA5A5A5A5#32 ∧ drawing.cnt = 0 ∧ drawing.phase = .draw1
      ∧ { drawing with mask := 0#32, state := 0x3EE#32 }.cfg = Params.standard
      ∧ (∀ n, NoReset n { drawing with mask := 0#32, state := 0x3EE#32 }) :=
  ⟨fun n => noReset_of_no_inputs n rfl, rfl, rfl, rfl, rfl, fun n => noReset_of_no_inputs n rfl⟩

end Sys2Proof.Tests
end

/-! SUPPORT and PROOFS. The registers and what a tick writes: the invariants of R36, the writers of `state`, `seed`
and `mask` (R21, R23, R24), the status word (R32) and the state after reset (R20, R37). -/

namespace Sys2Proof.Proofs.Registers

open Sys2Proof Sys2Proof.Machine Sys2Proof.Claims

variable {s t : State}

/-! ### The micro-operations of a generation -/

theorem latchFirst_keeps (g : Word) (raw : Bool) (s : State) : FlagsAndKeyKept s (latchFirst g raw s) := by
  simp [FlagsAndKeyKept]

theorem acceptPair_keeps (g : Word) (s : State) : FlagsAndKeyKept s (acceptPair g s) := by
  simp [FlagsAndKeyKept]

theorem discardPair_keeps (g : Word) (s : State) : FlagsAndKeyKept s (discardPair g s) := by
  simp [FlagsAndKeyKept]

theorem fireValve_keeps (s : State) : FlagsAndKeyKept s (fireValve s) := by simp [FlagsAndKeyKept]

theorem transferBit_keeps (s : State) : FlagsAndKeyKept s (transferBit s) := by simp [FlagsAndKeyKept]

theorem reload_keeps (len : Word) (s : State) : FlagsAndKeyKept s (reload len s) := by simp [FlagsAndKeyKept]

/-! ### The invariants, phase by phase

R36 gives each clause over all the phases. Here the clauses are turned round: `KeyInv` is what holds in every phase,
`PhaseInv` what each phase asks of the counters and of the fault record. A transition then shows what its own target
phase asks, and nothing about the others. -/

/-- The clauses that name no phase: R7, (e), (g) and R31. -/
structure KeyInv (s : State) : Prop where
  params : s.cfg.wf = true
  seedNonzero : s.inited = true → s.seed ≠ 0#32
  substSeed : s.seedSubst = true → s.seed = s.cfg.seedFallback
  faultRecord : s.fcause ≠ 3#2 ∧ (s.fcause = 0#2 → s.fop = 0#4)

/-- What a phase in which `GEN` is at work asks for, whatever its count. -/
def Generating (s : State) : Prop := s.rem ≠ 0#32 ∧ s.inited = true ∧ s.fcause = 0#2

/-- The clauses (a) to (d), (f) and (h), as what the present phase asks for. -/
def PhaseInv (s : State) : Prop :=
  match s.phase with
  | .idle => s.rem = 0#32 ∧ s.cnt = 0 ∧ s.fcause = 0#2
  | .draw1 => Generating s ∧ s.cnt ≤ s.cfg.discardLimit
  | .draw2 => Generating s ∧ s.cnt ≤ s.cfg.discardLimit
  | .valve => Generating s ∧ s.cnt = s.cfg.discardLimit + 1
  | .emit => Generating s ∧ s.cnt = 0
  | .unreachable5 => False
  | .unreachable6 => False
  | .halt => s.rem = 0#32 ∧ s.cnt = 0 ∧ s.fcause ≠ 0#2

theorem phaseInv_idle (hp : s.phase = .idle) : PhaseInv s ↔ s.rem = 0#32 ∧ s.cnt = 0 ∧ s.fcause = 0#2 := by
  simp [PhaseInv, hp]

theorem phaseInv_draw1 (hp : s.phase = .draw1) : PhaseInv s ↔ Generating s ∧ s.cnt ≤ s.cfg.discardLimit := by
  simp [PhaseInv, hp]

theorem phaseInv_draw2 (hp : s.phase = .draw2) : PhaseInv s ↔ Generating s ∧ s.cnt ≤ s.cfg.discardLimit := by
  simp [PhaseInv, hp]

theorem phaseInv_valve (hp : s.phase = .valve) : PhaseInv s ↔ Generating s ∧ s.cnt = s.cfg.discardLimit + 1 := by
  simp [PhaseInv, hp]

theorem phaseInv_emit (hp : s.phase = .emit) : PhaseInv s ↔ Generating s ∧ s.cnt = 0 := by
  simp [PhaseInv, hp]

theorem phaseInv_halt (hp : s.phase = .halt) : PhaseInv s ↔ s.rem = 0#32 ∧ s.cnt = 0 ∧ s.fcause ≠ 0#2 := by
  simp [PhaseInv, hp]

theorem keyInv_of_inv (h : Inv s) : KeyInv s := ⟨h.params, h.seedNonzero, h.substSeed, h.faultRecord⟩

/-- A generating phase is not `HALT`, so (f) says that no fault is recorded in it. -/
theorem generating_of_inv (h : Inv s) (hb : s.phase.busy = true) : Generating s := by
  obtain ⟨hrem, hinit⟩ := h.busyOwes hb
  have hnot : s.phase ≠ .halt := fun hp => by simp [hp, Phase.busy] at hb
  exact ⟨hrem, hinit, not_not.mp (mt h.haltFault.mpr hnot)⟩

theorem phaseInv_of_inv (h : Inv s) : PhaseInv s := by
  have hgen := generating_of_inv h
  cases hp : s.phase with
  | idle =>
    obtain ⟨hrem, hcnt⟩ := h.idleClear hp
    exact (phaseInv_idle hp).mpr ⟨hrem, hcnt, not_not.mp (mt h.haltFault.mpr (by simp [hp]))⟩
  | draw1 => exact (phaseInv_draw1 hp).mpr ⟨hgen (by rw [hp]; rfl), h.drawCount (.inl hp)⟩
  | draw2 => exact (phaseInv_draw2 hp).mpr ⟨hgen (by rw [hp]; rfl), h.drawCount (.inr hp)⟩
  | valve => exact (phaseInv_valve hp).mpr ⟨hgen (by rw [hp]; rfl), h.valveCount.mp hp⟩
  | emit => exact (phaseInv_emit hp).mpr ⟨hgen (by rw [hp]; rfl), h.emitCount hp⟩
  | unreachable5 => exact absurd hp h.phaseDefined.1
  | unreachable6 => exact absurd hp h.phaseDefined.2
  | halt =>
    obtain ⟨hrem, hcnt⟩ := h.haltClear hp
    exact (phaseInv_halt hp).mpr ⟨hrem, hcnt, h.haltFault.mp hp⟩

theorem PhaseInv.generating (h : PhaseInv s) (hb : s.phase.busy = true) : Generating s := by
  cases hp : s.phase with
  | draw1 => exact ((phaseInv_draw1 hp).mp h).1
  | draw2 => exact ((phaseInv_draw2 hp).mp h).1
  | valve => exact ((phaseInv_valve hp).mp h).1
  | emit => exact ((phaseInv_emit hp).mp h).1
  | _ => simp [hp, Phase.busy] at hb

/-- (d), first clause: in every phase but `VALVE` the count is at most the limit. -/
theorem PhaseInv.valveCount (h : PhaseInv s) : s.phase = .valve ↔ s.cnt = s.cfg.discardLimit + 1 := by
  cases hp : s.phase <;> simp only [PhaseInv, hp] at h <;> simp <;> omega

/-- (f): in every phase but `HALT` no fault is recorded. -/
theorem PhaseInv.haltFault (h : PhaseInv s) : s.phase = .halt ↔ s.fcause ≠ 0#2 := by
  cases hp : s.phase <;> simp_all [PhaseInv, Generating]

theorem KeyInv.inv (hk : KeyInv s) (h : PhaseInv s) : Inv s where
  params := hk.params
  phaseDefined := ⟨fun hp => by simp [PhaseInv, hp] at h, fun hp => by simp [PhaseInv, hp] at h⟩
  idleClear hp := have ⟨hrem, hcnt, _⟩ := (phaseInv_idle hp).mp h; ⟨hrem, hcnt⟩
  busyOwes hb := have ⟨hrem, hinit, _⟩ := h.generating hb; ⟨hrem, hinit⟩
  valveCount := h.valveCount
  drawCount hp := hp.elim (fun hp => ((phaseInv_draw1 hp).mp h).2) (fun hp => ((phaseInv_draw2 hp).mp h).2)
  emitCount hp := ((phaseInv_emit hp).mp h).2
  seedNonzero := hk.seedNonzero
  haltFault := h.haltFault
  substSeed := hk.substSeed
  haltClear hp := have ⟨hrem, hcnt, _⟩ := (phaseInv_halt hp).mp h; ⟨hrem, hcnt⟩
  faultRecord := hk.faultRecord

/-- `KeyInv` speaks of registers that no micro-operation of a generation writes. -/
theorem KeyInv.of_kept (h : KeyInv s) (hk : FlagsAndKeyKept s t) : KeyInv t := by
  obtain ⟨hseed, -, hinit, hsubst, hfc, hfop, hcfg, -⟩ := hk
  constructor
  · rw [hcfg]; exact h.params
  · rw [hinit, hseed]; exact h.seedNonzero
  · rw [hsubst, hseed, hcfg]; exact h.substSeed
  · rw [hfc, hfop]; exact h.faultRecord

/-- A micro-operation of a generation keeps the invariants when it leads to a phase that asks what it leaves. -/
theorem inv_of_kept (h : Inv s) (hk : FlagsAndKeyKept s t) (hph : PhaseInv t) : Inv t :=
  ((keyInv_of_inv h).of_kept hk).inv hph

/-- No invariant speaks of the host's inputs. -/
theorem inv_tickPassed (h : Inv s) : Inv (tickPassed s) :=
  ⟨h.params, h.phaseDefined, h.idleClear, h.busyOwes, h.valveCount, h.drawCount, h.emitCount, h.seedNonzero,
    h.haltFault, h.substSeed, h.haltClear, h.faultRecord⟩

/-! ### Every operation on the registers keeps the invariants in the phase it runs in -/

/-- R7: legal parameters have a nonzero seed fallback. -/
theorem seedFallback_ne_zero {p : Params} (h : p.wf = true) : p.seedFallback ≠ 0#32 := by
  simp only [Params.wf, Bool.and_eq_true, decide_eq_true_eq] at h
  exact h.2

/-- Where the zero candidate was replaced, the seed is the fallback (R30). -/
theorem normSeed_of_substFlag {cand : Word} (p : Params) (h : substFlag cand = true) :
    normSeed p cand = p.seedFallback := by
  obtain rfl : cand = 0#32 := of_decide_eq_true h
  exact normSeed_of_zero p

theorem inv_resetRegs (h : s.cfg.wf = true) : Inv (resetRegs s) :=
  KeyInv.inv ⟨h, by simp, by simp, by simp⟩ ((phaseInv_idle rfl).mpr ⟨rfl, rfl, rfl⟩)

theorem inv_construct (h : Inv s) (hp : s.phase = .idle) (cand mask : Word) : Inv (construct cand mask s) :=
  have hkey : KeyInv (construct cand mask s) :=
    ⟨h.params, fun _ => normSeed_ne_zero (seedFallback_ne_zero h.params) cand,
      normSeed_of_substFlag s.cfg, h.faultRecord⟩
  have hidle := (phaseInv_idle hp).mp (phaseInv_of_inv h)
  hkey.inv ((phaseInv_idle rfl).mpr hidle)

theorem inv_raise (h : Inv s) (hp : s.phase = .idle) (f : Fault) : Inv (raise f s) := by
  obtain ⟨hrem, hcnt, -⟩ := (phaseInv_idle hp).mp (phaseInv_of_inv h)
  obtain ⟨hne, hne3⟩ := cause_ne f
  have hkey : KeyInv (raise f s) :=
    ⟨h.params, h.seedNonzero, h.substSeed, hne3, fun h0 => absurd h0 hne⟩
  exact hkey.inv ((phaseInv_halt rfl).mpr ⟨hrem, hcnt, hne⟩)

theorem inv_reload (h : Inv s) (hp : s.phase = .idle) (hi : s.inited = true) (len : Word) :
    Inv (reload len s) := by
  obtain ⟨-, -, hfc⟩ := (phaseInv_idle hp).mp (phaseInv_of_inv h)
  refine inv_of_kept h (reload_keeps len s) ?_
  by_cases hl : len = 0#32
  · exact (phaseInv_idle (by simp [hl])).mpr ⟨hl, rfl, hfc⟩
  · exact (phaseInv_draw1 (by simp [hl])).mpr ⟨⟨hl, hi, hfc⟩, Nat.zero_le _⟩

theorem inv_latchFirst (h : Inv s) (hp : s.phase = .draw1) (g : Word) (raw : Bool) :
    Inv (latchFirst g raw s) :=
  have hdraw := (phaseInv_draw1 hp).mp (phaseInv_of_inv h)
  inv_of_kept h (latchFirst_keeps g raw s) ((phaseInv_draw2 rfl).mpr hdraw)

theorem inv_acceptPair (h : Inv s) (hp : s.phase = .draw2) (g : Word) : Inv (acceptPair g s) := by
  obtain ⟨hgen, -⟩ := (phaseInv_draw2 hp).mp (phaseInv_of_inv h)
  exact inv_of_kept h (acceptPair_keeps g s) ((phaseInv_emit rfl).mpr ⟨hgen, rfl⟩)

/-- The new count is compared, so `VALVE` is entered with exactly the limit plus one. -/
theorem inv_discardPair (h : Inv s) (hp : s.phase = .draw2) (g : Word) : Inv (discardPair g s) := by
  obtain ⟨hgen, hcnt⟩ := (phaseInv_draw2 hp).mp (phaseInv_of_inv h)
  refine inv_of_kept h (discardPair_keeps g s) ?_
  by_cases hfire : s.cnt + 1 > s.cfg.discardLimit
  · exact (phaseInv_valve (by rw [discardPair_phase, if_pos hfire])).mpr
      ⟨hgen, by rw [discardPair_cnt, discardPair_cfg]; omega⟩
  · exact (phaseInv_draw1 (by rw [discardPair_phase, if_neg hfire])).mpr ⟨hgen, not_lt.mp hfire⟩

theorem inv_fireValve (h : Inv s) (hp : s.phase = .valve) : Inv (fireValve s) := by
  obtain ⟨hgen, -⟩ := (phaseInv_valve hp).mp (phaseInv_of_inv h)
  exact inv_of_kept h (fireValve_keeps s) ((phaseInv_draw1 rfl).mpr ⟨hgen, Nat.zero_le _⟩)

/-- The last bit leaves nothing owed and goes to `IDLE`; any other leaves some. -/
theorem inv_transferBit (h : Inv s) (hp : s.phase = .emit) : Inv (transferBit s) := by
  obtain ⟨⟨-, hinit, hfc⟩, hcnt⟩ := (phaseInv_emit hp).mp (phaseInv_of_inv h)
  refine inv_of_kept h (transferBit_keeps s) ?_
  by_cases hlast : s.rem = 1#32
  · exact (phaseInv_idle (by simp [hlast])).mpr ⟨by simp [hlast], hcnt, hfc⟩
  · have howed : s.rem - 1#32 ≠ 0#32 := mt sub_eq_zero.mp hlast
    exact (phaseInv_draw1 (by simp [hlast])).mpr
      ⟨⟨howed, hinit, hfc⟩, by rw [transferBit_cnt, hcnt]; exact Nat.zero_le _⟩

/-- Executing a command word keeps the invariants (`IDLE` is where it happens, R56). -/
theorem inv_commandCase {w : CmdWord} (h : Inv s) (hp : s.phase = .idle) (hc : CommandCase w s t) : Inv t := by
  cases hc with
  | construct cand m _ => exact inv_construct h hp cand m
  | gen _ hi => exact inv_reload h hp hi _
  | genFault _ _ => exact inv_raise h hp _
  | reserved _ => exact inv_raise h hp _

/-- Settles O38, from the rule of each register operation above, by the cases of a tick. -/
theorem everyTickKeepsTheInvariants : Obligations.EveryTickKeepsTheInvariants := by
  intro s t h hstep
  cases step_next hstep with
  | reset _ => exact inv_tickPassed (inv_resetRegs h.params)
  | idle _ _ _ => exact inv_tickPassed h
  | command _ hp _ hc => exact inv_tickPassed (inv_commandCase h hp hc)
  | draw1 _ hp => exact inv_tickPassed (inv_latchFirst h hp _ _)
  | accept _ hp _ => exact inv_tickPassed (inv_acceptPair h hp _)
  | discard _ hp _ => exact inv_tickPassed (inv_discardPair h hp _)
  | valve _ hp => exact inv_tickPassed (inv_fireValve h hp)
  | wait _ _ _ => exact inv_tickPassed h
  | transfer _ hp _ => exact inv_tickPassed (inv_transferBit h hp)
  | stuck _ _ => exact inv_tickPassed h

/-- Settles O40: of the state before a reset only the parameters matter. -/
theorem resetTickEstablishesTheInvariants : Obligations.ResetTickEstablishesTheInvariants := by
  intro s t hwf hr hstep
  rw [step_reset hr] at hstep
  injection hstep with hstep
  exact hstep ▸ inv_tickPassed (inv_resetRegs hwf)

/-! ### What writes `state`, `seed` and `mask` -/

theorem commandTransfer_of_offered (hr : s.pins.rst = false) (hp : s.phase = .idle) (hv : s.pins.cmdValid = true) :
    commandTransfer s = true := by
  simp [commandTransfer, cmdReady, hr, hp, hv]

/-- Of the commands only `INIT*` and `GEN` write `state`. -/
theorem commandCase_state {w : CmdWord} (hc : CommandCase w s t) (hne : t.state ≠ s.state) :
    Construction (cmdOp w) ∨ cmdOp w = 8#4 := by
  cases hc with
  | construct _ _ hop => exact .inl hop
  | gen hop _ => exact .inr hop
  | genFault _ _ => exact absurd rfl hne
  | reserved _ => exact absurd rfl hne

/-- Of the commands only `INIT*` write `seed` and `mask`. -/
theorem commandCase_key {w : CmdWord} (hc : CommandCase w s t) (hne : t.seed ≠ s.seed ∨ t.mask ≠ s.mask) :
    Construction (cmdOp w) := by
  cases hc with
  | construct _ _ hop => exact hop
  | gen _ _ => simp at hne
  | genFault _ _ => simp at hne
  | reserved _ => simp at hne

theorem commandCase_cfg {w : CmdWord} (hc : CommandCase w s t) : t.cfg = s.cfg := by
  cases hc <;> rfl

theorem stepCase_cfg (h : StepCase s t) : t.cfg = s.cfg := by
  cases h with
  | command _ _ _ hc => exact (tickPassed_cfg _).trans (commandCase_cfg hc)
  | _ => rfl

/-- Settles O43, by the cases of a tick. -/
theorem stateIsWrittenOnlyByTheListedTransitions : Obligations.StateIsWrittenOnlyByTheListedTransitions := by
  intro s t hstep hne
  cases step_next hstep with
  | reset hr => exact .inl hr
  | command hr hp hv hc => exact .inr (.inl ⟨commandTransfer_of_offered hr hp hv, commandCase_state hc hne⟩)
  | draw1 _ hp => exact .inr (.inr (.inl hp))
  | accept _ hp _ => exact .inr (.inr (.inr (.inl hp)))
  | discard _ hp _ => exact .inr (.inr (.inr (.inl hp)))
  | valve _ hp => exact .inr (.inr (.inr (.inr hp)))
  | _ => exact absurd rfl hne

/-- Settles O44: the cases of a tick that are no reset and no `INIT*` leave `seed` and `mask` as they are. -/
theorem seedAndMaskAreWrittenOnlyByConstruction : Obligations.SeedAndMaskAreWrittenOnlyByConstruction := by
  intro s t hstep
  refine ⟨fun hne => ?_, stepCase_cfg (step_next hstep)⟩
  cases step_next hstep with
  | reset hr => exact .inl hr
  | command hr hp hv hc => exact .inr ⟨commandTransfer_of_offered hr hp hv, commandCase_key hc hne⟩
  | _ => simp at hne

/-! ### The status word -/

/-- Bits put above others weigh `2^m` as much. -/
theorem toNat_append_eq_add {n m : Nat} (x : BitVec n) (y : BitVec m) :
    (x ++ y).toNat = x.toNat * 2 ^ m + y.toNat := by
  rw [BitVec.toNat_append, ← Nat.shiftLeft_add_eq_or_of_lt y.isLt, Nat.shiftLeft_eq]

/-- R32 as a number, in every phase. -/
theorem status_toNat (s : State) :
    (status s).toNat = s.phase.busy.toNat + 2 * s.inited.toNat + 4 * s.seedSubst.toNat
      + 8 * s.phase.faulted.toNat + 16 * s.fcause.toNat + 256 * s.fop.toNat := by
  simp only [status, toNat_append_eq_add, BitVec.toNat_ofBool, BitVec.toNat_ofNat]
  omega

theorem busy_toNat (p : Phase) :
    p.busy.toNat = if p = .draw1 ∨ p = .draw2 ∨ p = .valve ∨ p = .emit then 1 else 0 := by
  cases p <;> rfl

/-- `FAULT` marks `HALT` among the defined phases (R32). -/
theorem faulted_toNat {p : Phase} (h5 : p ≠ .unreachable5) (h6 : p ≠ .unreachable6) :
    p.faulted.toNat = if p = .halt then 1 else 0 := by
  cases p with
  | unreachable5 => exact absurd rfl h5
  | unreachable6 => exact absurd rfl h6
  | _ => rfl

/-- Bits 7:6 and 15:12 of the status word are hardwired 0 (R32): no field's weight reaches them. -/
theorem status_hardwired (s : State) :
    (status s).extractLsb' 6 2 = 0#2 ∧ (status s).extractLsb' 12 4 = 0#4 := by
  have hbusy := s.phase.busy.toNat_lt
  have hinit := s.inited.toNat_lt
  have hsubst := s.seedSubst.toNat_lt
  have hfault := s.phase.faulted.toNat_lt
  have hcause := s.fcause.isLt
  have hop := s.fop.isLt
  constructor <;> apply BitVec.eq_of_toNat_eq <;>
    simp only [BitVec.extractLsb'_toNat, Nat.shiftRight_eq_div_pow, status_toNat, BitVec.toNat_ofNat] <;> omega

/-- Settles O50, from the status word as a number in every phase. -/
theorem statusWordFields : Obligations.StatusWordFields :=
  ⟨fun s h5 h6 => by rw [status_toNat, busy_toNat, faulted_toNat h5 h6], status_hardwired, by decide⟩

/-! ### The state after reset -/

/-- Settles O33, by evaluation of the one state it speaks of. -/
theorem resetStateHasTheTableValues : Obligations.ResetStateHasTheTableValues := by
  unfold Obligations.ResetStateHasTheTableValues
  decide

/-- Settles O39: `State.reset` is what a reset leaves of it (O33), and its parameters are legal. -/
theorem resetStateMeetsTheInvariants : Obligations.ResetStateMeetsTheInvariants :=
  inv_resetRegs (s := State.reset) (by decide)

end Sys2Proof.Proofs.Registers

/-! SUPPORT and PROOFS. The two channels: what a tick reads of the host's inputs (R56, R57), the bit it hands over
(R58, R60), the last flag (R59), and a request's delivery to a host of any readiness (R161). -/

namespace Sys2Proof.Proofs.Channels

open Sys2Proof Sys2Proof.Machine Sys2Proof.Claims Sys2Proof.Proofs.Registers

variable {s t : State}

/-! ### What a tick reads of the host's inputs -/

theorem step_eq_afterTick (s : State) : step s = afterTick (exec (selected s) s) := by
  unfold step
  cases exec (selected s) s <;> rfl

/-- No command word selects what only the phase register selects (R72, R80). -/
theorem decodeCmd_not_phase (w : CmdWord) : decodeCmd w ≠ .emit ∧ decodeCmd w ≠ .phaseIdle := by
  unfold decodeCmd
  split <;> simp

theorem decodePhase_code_eq_emit {p : Phase} (h : decodePhase p.code = .emit) : p = .emit := by
  cases p <;> simp at h ⊢

theorem decodePhase_code_eq_phaseIdle {p : Phase} (h : decodePhase p.code = .phaseIdle) : p = .idle := by
  cases p <;> simp at h ⊢

theorem phase_of_selected_emit (h : selected s = .emit) : s.phase = .emit := by
  unfold selected at h
  split_ifs at h
  · exact absurd h (decodeCmd_not_phase _).1
  · exact decodePhase_code_eq_emit h

/-- `IDLE`'s own micro-operation runs only where no command is offered. -/
theorem idle_of_selected_phaseIdle (h : selected s = .phaseIdle) : s.phase = .idle ∧ s.pins.cmdValid = false := by
  unfold selected at h
  split_ifs at h with hr hc
  · exact absurd h (decodeCmd_not_phase _).2
  · have hp := decodePhase_code_eq_phaseIdle h
    exact ⟨hp, by simpa [commandTransfer, cmdReady, hr, hp] using hc⟩

/-- Of the instructions only `EMIT` reads `ks_ready` and only `IDLE` reads `cmd_valid`; the inputs of the tick are
spent in every one. -/
theorem afterTick_exec_withPins {ins : Instr} {i j : TickIn} (s : State)
    (hemit : ins = .emit → i.ksReady = j.ksReady)
    (hidle : ins = .phaseIdle → i.cmdValid = false ∧ j.cmdValid = false) :
    afterTick (exec ins (withPins i s)) = afterTick (exec ins (withPins j s)) := by
  cases ins with
  | gen len _ => cases h : s.inited <;> simp only [exec, execGen, withPins_inited, h] <;> rfl
  | draw2 =>
    by_cases h : s.b1 = (stepperStep s.cfg s.state s.mask).2 <;> simp [exec, execDraw2, h] <;> rfl
  | emit => cases h : j.ksReady <;> simp [exec, execEmit, hemit, h] <;> rfl
  | phaseIdle =>
    obtain ⟨hi, hj⟩ := hidle rfl
    simp only [exec, execPhaseIdle, withPins_pins, hi, hj]
    rfl
  | _ => rfl

/-- Two ticks that run the same instruction, and drive alike what it reads, have the same result. -/
theorem step_withPins_congr {i j : TickIn} (hsel : selected (withPins i s) = selected (withPins j s))
    (hemit : s.phase = .emit → i.ksReady = j.ksReady) :
    step (withPins i s) = step (withPins j s) := by
  rw [step_eq_afterTick, step_eq_afterTick, ← hsel]
  refine afterTick_exec_withPins s (fun h => hemit (phase_of_selected_emit (s := withPins i s) h)) fun h => ?_
  exact ⟨(idle_of_selected_phaseIdle (s := withPins i s) h).2,
    (idle_of_selected_phaseIdle (s := withPins j s) (hsel ▸ h)).2⟩

/-- Settles O45: which instruction a tick runs is decided by `rst` and the command channel, the latter in `IDLE`
only. -/
theorem channelsAreIgnoredOutsideTheirPhase : Obligations.ChannelsAreIgnoredOutsideTheirPhase := by
  constructor
  · intro s i j hp hr hk
    exact step_withPins_congr (by simp [selected, commandTransfer, cmdReady, hp, hr]) fun _ => hk
  · intro s i j hp hr hv hc
    have hsel : selected (withPins i s) = selected (withPins j s) := by
      simp only [selected, commandTransfer, withPins_pins, hr, hv, hc]
      rfl
    exact step_withPins_congr hsel fun h => absurd h hp

/-! ### The bit a tick hands over -/

theorem bitTransfer_eq_true : bitTransfer s = true ↔ s.pins.rst = false ∧ s.phase = .emit ∧ s.pins.ksReady = true := by
  simp [bitTransfer, ksValid, and_assoc]

theorem bitTransfer_of_rst (h : s.pins.rst = true) : bitTransfer s = false := by simp [bitTransfer, h]

theorem bitTransfer_of_not_emit (h : s.phase ≠ .emit) : bitTransfer s = false := by
  simp [bitTransfer, ksValid, h]

theorem bitTransfer_of_not_ready (h : s.pins.ksReady = false) : bitTransfer s = false := by simp [bitTransfer, h]

theorem commandCase_sent {w : CmdWord} (hc : CommandCase w s t) : t.sent = s.sent := by
  cases hc <;> rfl

theorem commandCase_inputs {w : CmdWord} (hc : CommandCase w s t) : t.inputs = s.inputs := by
  cases hc <;> rfl

theorem stuck_ne_emit {p : Phase} (h : p.stuck) : p ≠ .emit := by
  obtain rfl | rfl | rfl := h <;> simp

/-- Settles O47: of the cases of a tick only the transfer writes `sent`, and only it is a bit transfer. -/
theorem bitsAreHandedOverOnceAndKept : Obligations.BitsAreHandedOverOnceAndKept := by
  intro s t hstep
  cases step_next hstep with
  | reset hr => simp [bitTransfer_of_rst hr]
  | command _ hp _ hc => simp [bitTransfer_of_not_emit, hp, commandCase_sent hc]
  | wait _ _ hk => simp [bitTransfer_of_not_ready hk]
  | transfer hr hp hk => simp [bitTransfer_eq_true.mpr ⟨hr, hp, hk⟩, ksBit]
  | stuck _ hp => simp [bitTransfer_of_not_emit (stuck_ne_emit hp)]
  | idle _ hp _ | draw1 _ hp | accept _ hp _ | discard _ hp _ | valve _ hp => simp [bitTransfer_of_not_emit, hp]

/-! ### The last flag -/

theorem ksLast_eq_true : ksLast s = true ↔ ksValid s = true ∧ s.rem = 1#32 := by
  simp [ksLast, ksValid]

theorem status_busy (s : State) : (status s).getLsbD 0 = s.phase.busy :=
  BitVec.getLsbD_append.trans (by simp)

/-- The tick of a bit transfer (R157). -/
theorem step_of_bitTransfer (h : bitTransfer s = true) : step s = .next (tickPassed (transferBit s)) :=
  have ⟨hr, hp, hk⟩ := bitTransfer_eq_true.mp h
  step_transfer hr hp hk

/-- The tick of a `GEN` to an initialised instance (R153). -/
theorem step_of_genTransferred {n : Word} (h : GenTransferred s n) : step s = .next (tickPassed (reload n s)) := by
  obtain ⟨hc, hop, rfl, hi⟩ := h
  simp only [commandTransfer, cmdReady, Bool.and_eq_true, Bool.not_eq_true', decide_eq_true_eq] at hc
  obtain ⟨⟨hr, hv⟩, hp⟩ := hc
  exact step_command hr hp hv (by simp [execCommand, hop, execGen, hi])

/-- The phase after a bit transfer: `ks_last` is what decides it. -/
theorem transferBit_after_last (hv : ksValid s = true) :
    (ksLast s = true → (transferBit s).phase = .idle ∧ (transferBit s).rem = 0#32)
      ∧ (ksLast s = false → (transferBit s).phase = .draw1) := by
  rw [← Bool.not_eq_true, ksLast_eq_true]
  constructor
  · rintro ⟨-, hrem⟩
    simp [hrem]
  · intro hlast
    simp [show s.rem ≠ 1#32 from fun hrem => hlast ⟨hv, hrem⟩]

/-- Settles O48: `rem` before the transfer decides the next phase, and a `GEN` of length 0 stays in `IDLE`. -/
theorem lastFlagMarksTheFinalBit : Obligations.LastFlagMarksTheFinalBit := by
  refine ⟨fun s => ksLast_eq_true, fun s t _ hb hstep => ?_, fun s t _ hg hstep => ?_⟩
  · obtain rfl := Host.Outcome.next.inj ((step_of_bitTransfer hb).symm.trans hstep)
    have ⟨_, hp, _⟩ := bitTransfer_eq_true.mp hb
    exact transferBit_after_last (by simp [ksValid, hp])
  · obtain rfl := Host.Outcome.next.inj ((step_of_genTransferred hg).symm.trans hstep)
    exact ⟨rfl, status_busy _, rfl⟩

/-! ### Runs of many ticks -/

theorem stepCase_inputs (h : StepCase s t) : t.inputs = s.inputs.tail := by
  cases h with
  | command _ _ _ hc => exact congrArg List.tail (commandCase_inputs hc)
  | _ => rfl

/-- After a tick the host's next inputs are this tick's. -/
theorem pinsAt_step (h : step s = .next t) (k : Nat) : pinsAt t k = pinsAt s (k + 1) := by
  rw [← pinsAt_tickPassed, pinsAt, pinsAt, stepCase_inputs (step_next h), tickPassed_inputs]

/-- What every tick with such inputs keeps, a run of ticks with such inputs keeps. -/
theorem ticks_keep {P : State → Prop} {Q : TickIn → Prop}
    (hkeep : ∀ {s t}, P s → Q s.pins → step s = .next t → P t) {n : Nat} (h : P s)
    (hpins : ∀ k, k < n → Q (pinsAt s k)) (hrun : ticks n s = .next t) : P t := by
  induction n generalizing s with
  | zero => exact Host.Outcome.next.inj hrun ▸ h
  | succ n ih =>
    cases hs : step s with
    | next u =>
      rw [ticks_succ hs] at hrun
      have hu : P u := hkeep h (pinsAt_zero s ▸ hpins 0 n.succ_pos) hs
      exact ih hu (fun k hk => pinsAt_step hs k ▸ hpins (k + 1) (Nat.succ_lt_succ hk)) hrun
    | fault r => simp [ticks, hs] at hrun
    | refused r => simp [ticks, hs] at hrun

/-! ### The extraction under way -/

section
variable {p : Params} {mask w g : Word} {cnt fuel : Nat} {b : Bool}

/-- `nbb_loop` of R143 from the state `w` with the count `cnt` is defined; it leaves the state `g` and gives the
bit `b`. -/
def Extracts (p : Params) (mask w : Word) (cnt : Nat) (g : Word) (b : Bool) : Prop :=
  ∃ fuel r, nbbLoop p mask fuel w cnt = some r ∧ r.state = g ∧ r.bit = b

/-- A discarded pair before an extraction changes its counts only. -/
theorem extracts_of_map_afterDiscard {r : BitResult} {v : Nat}
    (h : (nbbLoop p mask fuel w cnt).map (BitResult.afterDiscard v) = some r) :
    Extracts p mask w cnt r.state r.bit := by
  obtain ⟨r', hr', rfl⟩ := Option.map_eq_some_iff.mp h
  exact ⟨fuel, r', hr', rfl, rfl⟩

/-- R133: an unequal pair ends the extraction with its first bit. -/
theorem Extracts.of_unequal (h : Extracts p mask w cnt g b)
    (hne : (stepperStep p w mask).2 ≠ (stepperStep p (stepperStep p w mask).1 mask).2) :
    (stepperStep p (stepperStep p w mask).1 mask).1 = g ∧ (stepperStep p w mask).2 = b := by
  obtain ⟨_ | fuel, r, hr, rfl, rfl⟩ := h
  · cases hr
  · rw [nbbLoop, if_pos hne] at hr
    obtain rfl := Option.some.inj hr
    exact ⟨rfl, rfl⟩

/-- R134, R138: an equal pair beyond the limit goes on from the perturbed state. -/
theorem Extracts.of_equal_beyond (h : Extracts p mask w cnt g b)
    (heq : (stepperStep p w mask).2 = (stepperStep p (stepperStep p w mask).1 mask).2)
    (hlim : cnt + 1 > p.discardLimit) :
    Extracts p mask (add32 (stepperStep p (stepperStep p w mask).1 mask).1 (zext32 (cnt + 1))) 0 g b := by
  obtain ⟨_ | fuel, r, hr, rfl, rfl⟩ := h
  · cases hr
  · rw [nbbLoop, if_neg (not_not.mpr heq), if_pos hlim] at hr
    exact extracts_of_map_afterDiscard hr

/-- R134: an equal pair within the limit goes on from the pair's state. -/
theorem Extracts.of_equal_within (h : Extracts p mask w cnt g b)
    (heq : (stepperStep p w mask).2 = (stepperStep p (stepperStep p w mask).1 mask).2)
    (hlim : ¬ cnt + 1 > p.discardLimit) :
    Extracts p mask (stepperStep p (stepperStep p w mask).1 mask).1 (cnt + 1) g b := by
  obtain ⟨_ | fuel, r, hr, rfl, rfl⟩ := h
  · cases hr
  · rw [nbbLoop, if_neg (not_not.mpr heq), if_neg hlim] at hr
    exact extracts_of_map_afterDiscard hr

end

/-- The extraction under way in `s` ends in the state `g` with the bit `b`: what each of the four phases that work on
one knows of R143's function. -/
inductive Extracting (g : Word) (b : Bool) (s : State) : Prop where
  /-- A pair begins. -/
  | draw1 (hp : s.phase = .draw1) (h : Extracts s.cfg s.mask s.state s.cnt g b)
  /-- A pair began in the state `w`. -/
  | draw2 {w : Word} (hp : s.phase = .draw2) (hstate : (stepperStep s.cfg w s.mask).1 = s.state)
      (hbit : (stepperStep s.cfg w s.mask).2 = s.b1) (h : Extracts s.cfg s.mask w s.cnt g b)
  /-- The next pair begins in the perturbed state. -/
  | valve (hp : s.phase = .valve) (h : Extracts s.cfg s.mask (add32 s.state (zext32 s.cnt)) 0 g b)
  /-- The extraction has ended. -/
  | emit (hp : s.phase = .emit) (hstate : s.state = g) (hout : s.out = b) (hcnt : s.cnt = 0)

theorem Extracting.of_emit {g : Word} {b : Bool} (h : Extracting g b s) (hp : s.phase = .emit) :
    s.state = g ∧ s.out = b ∧ s.cnt = 0 := by
  cases h with
  | emit _ hstate hout hcnt => exact ⟨hstate, hout, hcnt⟩
  | draw1 hp' _ | draw2 hp' _ _ _ | valve hp' _ => simp [hp] at hp'

theorem Extracting.ne_idle {g : Word} {b : Bool} (h : Extracting g b s) : s.phase ≠ .idle := by
  cases h with
  | draw1 hp _ | draw2 hp _ _ _ | valve hp _ | emit hp _ _ _ => simp [hp]

/-- A discarding `DRAW2` goes on with the extraction, through the valve or not. -/
theorem extracting_discardPair {g w : Word} {b : Bool} (hstate : (stepperStep s.cfg w s.mask).1 = s.state)
    (hbit : (stepperStep s.cfg w s.mask).2 = s.b1) (h : Extracts s.cfg s.mask w s.cnt g b)
    (heq : s.b1 = (stepperStep s.cfg s.state s.mask).2) :
    Extracting g b (tickPassed (discardPair (stepperStep s.cfg s.state s.mask).1 s)) := by
  rw [← hbit, ← hstate] at heq
  rw [← hstate]
  by_cases hlim : s.cnt + 1 > s.cfg.discardLimit
  · exact .valve (by simp [hlim]) (h.of_equal_beyond heq hlim)
  · exact .draw1 (by simp [hlim]) (h.of_equal_within heq hlim)

/-- Until its bit is taken, an extraction goes on to the same end, and `rem` and `mask` stay. -/
theorem Extracting.step {g : Word} {b : Bool} (h : Extracting g b s) (hr : s.pins.rst = false)
    (hb : bitTransfer s = false) (hstep : step s = .next t) :
    Extracting g b t ∧ t.rem = s.rem ∧ t.mask = s.mask := by
  cases h with
  | draw1 hp h =>
    obtain rfl := Host.Outcome.next.inj ((step_draw1 hr hp).symm.trans hstep)
    exact ⟨.draw2 rfl rfl rfl h, rfl, rfl⟩
  | draw2 hp hstate hbit h =>
    by_cases heq : s.b1 = (stepperStep s.cfg s.state s.mask).2
    · obtain rfl := Host.Outcome.next.inj ((step_discard hr hp heq).symm.trans hstep)
      exact ⟨extracting_discardPair hstate hbit h heq, rfl, rfl⟩
    · obtain rfl := Host.Outcome.next.inj ((step_accept hr hp heq).symm.trans hstep)
      obtain ⟨hg, hout⟩ := h.of_unequal (by rwa [hstate, hbit])
      exact ⟨.emit rfl (by simpa [hstate] using hg) (hbit.symm.trans hout) rfl, rfl, rfl⟩
  | valve hp h =>
    obtain rfl := Host.Outcome.next.inj ((step_valve hr hp).symm.trans hstep)
    exact ⟨.draw1 rfl h, rfl, rfl⟩
  | emit hp hstate hout hcnt =>
    have hk : s.pins.ksReady = false := by simpa [bitTransfer, ksValid, hr, hp] using hb
    obtain rfl := Host.Outcome.next.inj ((step_emit_wait hr hp hk).symm.trans hstep)
    exact ⟨.emit hp hstate hout hcnt, rfl, rfl⟩

/-! ### The bits a request still owes -/

/-- The block in `s` still owes the bits listed, and is left in the state `final` when it has delivered them. -/
inductive Owing (final : Word) (s : State) : List Bool → Prop where
  /-- Nothing is owed. -/
  | done (hp : s.phase = .idle) (hrem : s.rem = 0#32) (hstate : s.state = final) : Owing final s []
  /-- An extraction is under way, and `generate` (R160) goes on where it ends. -/
  | bit {g : Word} {b : Bool} {m fuel : Nat} {k : Keystream} (hx : Extracting g b s) (hrem : s.rem.toNat = m + 1)
      (hgen : generate s.cfg s.mask fuel m g = some k) (hfinal : k.state = final) : Owing final s (b :: k.bits)

theorem generate_length {p : Params} {mask : Word} {fuel n : Nat} {w : Word} {k : Keystream}
    (h : generate p mask fuel n w = some k) : k.bits.length = n := by
  induction n generalizing w k with
  | zero =>
    obtain rfl := Option.some.inj h
    rfl
  | succ n ih =>
    rw [generate] at h
    split at h
    · cases h
    · obtain ⟨k', hk', rfl⟩ := Option.map_eq_some_iff.mp h
      exact congrArg (· + 1) (ih hk')

theorem Owing.length {final : Word} {rest : List Bool} (h : Owing final s rest) : rest.length = s.rem.toNat := by
  cases h with
  | done _ hrem _ => simp [hrem]
  | bit _ hrem hgen _ => rw [hrem, List.length_cons, generate_length hgen]

theorem Owing.of_idle {final : Word} {rest : List Bool} (h : Owing final s rest) (hp : s.phase = .idle) :
    rest = [] ∧ s.state = final := by
  cases h with
  | done _ _ hstate => exact ⟨rfl, hstate⟩
  | bit hx _ _ _ => exact absurd hp hx.ne_idle

/-- Where the next extraction begins (after a `GEN`, and after each bit) the block owes the keystream generated from
there. -/
theorem owing_of_generate {fuel : Nat} {k : Keystream} (hp : s.phase = if s.rem = 0#32 then .idle else .draw1)
    (hcnt : s.cnt = 0) (h : generate s.cfg s.mask fuel s.rem.toNat s.state = some k) : Owing k.state s k.bits := by
  cases hm : s.rem.toNat with
  | zero =>
    have hrem : s.rem = 0#32 := BitVec.eq_of_toNat_eq hm
    rw [hm] at h
    obtain rfl := Option.some.inj h
    exact .done (by simpa [hrem] using hp) hrem rfl
  | succ m =>
    have hrem : s.rem ≠ 0#32 := fun h0 => by simp [h0] at hm
    rw [hm, generate] at h
    split at h
    · cases h
    next r hr =>
      obtain ⟨k', hk', rfl⟩ := Option.map_eq_some_iff.mp h
      have hx : Extracts s.cfg s.mask s.state s.cnt r.state r.bit := ⟨fuel, r, hcnt ▸ hr, rfl, rfl⟩
      exact .bit (.draw1 (by simpa [hrem] using hp) hx) hm hk' rfl

/-- A bit transfer leaves the bits after the first owed. -/
theorem owing_transferBit {g final : Word} {b : Bool} {m fuel : Nat} {k : Keystream} (hp : s.phase = .emit)
    (hx : Extracting g b s) (hrem : s.rem.toNat = m + 1) (hgen : generate s.cfg s.mask fuel m g = some k)
    (hfinal : k.state = final) : Owing final (tickPassed (transferBit s)) k.bits := by
  obtain ⟨hstate, -, hcnt⟩ := hx.of_emit hp
  have hleft : (s.rem - 1#32).toNat = m := by bv_omega
  have hlast : s.rem - 1#32 = 0#32 ↔ s.rem = 1#32 := sub_eq_zero
  rw [← hfinal]
  apply owing_of_generate (fuel := fuel)
  · simp [hlast]
  · exact hcnt
  · simpa [hleft, hstate] using hgen

/-- A tick without a reset or a command hands over a beginning of what is owed, and the rest stays owed. -/
theorem Owing.step {final : Word} {rest : List Bool} (h : Owing final s rest) (hr : s.pins.rst = false)
    (hv : s.pins.cmdValid = false) (hstep : step s = .next t) :
    ∃ taken rest', t.sent = s.sent ++ taken ∧ rest = taken ++ rest' ∧ Owing final t rest' := by
  cases h with
  | done hp hrem hstate =>
    obtain rfl := Host.Outcome.next.inj ((step_idle hr hp hv).symm.trans hstep)
    exact ⟨[], [], by simp, rfl, .done hp hrem hstate⟩
  | bit hx hrem hgen hfinal =>
    cases hb : bitTransfer s with
    | false =>
      obtain ⟨hx', hrem', hmask⟩ := hx.step hr hb hstep
      have hsent := bitsAreHandedOverOnceAndKept s t hstep
      rw [hb] at hsent
      rw [← stepCase_cfg (step_next hstep), ← hmask] at hgen
      exact ⟨[], _, hsent, rfl, .bit hx' (hrem' ▸ hrem) hgen hfinal⟩
    | true =>
      obtain ⟨-, hp, -⟩ := bitTransfer_eq_true.mp hb
      obtain ⟨-, hout, -⟩ := hx.of_emit hp
      obtain rfl := Host.Outcome.next.inj ((step_of_bitTransfer hb).symm.trans hstep)
      exact ⟨[s.out], _, rfl, by rw [hout]; rfl, owing_transferBit hp hx hrem hgen hfinal⟩

/-! ### The delivery of a request -/

/-- The host, which held `base` before the request, has taken a beginning of the keystream `k`; the rest is owed. -/
def Delivering (base : List Bool) (k : Keystream) (s : State) : Prop :=
  ∃ taken rest, s.sent = base ++ taken ∧ k.bits = taken ++ rest ∧ Owing k.state s rest

theorem Delivering.step {base : List Bool} {k : Keystream} (h : Delivering base k s) (hr : s.pins.rst = false)
    (hv : s.pins.cmdValid = false) (hstep : step s = .next t) : Delivering base k t := by
  obtain ⟨taken, rest, hsent, hbits, howing⟩ := h
  obtain ⟨now, rest', hsent', rfl, howing'⟩ := howing.step hr hv hstep
  exact ⟨taken ++ now, rest', by rw [hsent', hsent, List.append_assoc], by rw [hbits, List.append_assoc], howing'⟩

/-- How many bits have been taken is told by `rem`. -/
theorem Delivering.sent_eq {base : List Bool} {k : Keystream} (h : Delivering base k s) :
    s.rem.toNat ≤ k.bits.length ∧ s.sent = base ++ k.bits.take (k.bits.length - s.rem.toNat) := by
  obtain ⟨taken, rest, hsent, hbits, howing⟩ := h
  rw [hsent, hbits, ← howing.length]
  simp

theorem Delivering.of_idle {base : List Bool} {k : Keystream} (h : Delivering base k s) (hp : s.phase = .idle) :
    s.sent = base ++ k.bits ∧ s.state = k.state := by
  obtain ⟨taken, rest, hsent, hbits, howing⟩ := h
  obtain ⟨rfl, hstate⟩ := howing.of_idle hp
  exact ⟨by rw [hsent, hbits, List.append_nil], hstate⟩

theorem delivering_reload {n : Word} {fuel : Nat} {k : Keystream}
    (h : generate s.cfg s.mask fuel n.toNat s.seed = some k) : Delivering s.sent k (tickPassed (reload n s)) :=
  ⟨[], k.bits, by simp, rfl, owing_of_generate rfl rfl h⟩

/-- Settles O55: the tick of the `GEN` begins the delivery, and every tick after it keeps it going. -/
theorem anyHostTakesThePrefixOfTheKeystream : Obligations.AnyHostTakesThePrefixOfTheKeystream := by
  intro s t n fuel N k hg hk hN hr hv hrun
  obtain ⟨N, rfl⟩ := Nat.exists_eq_add_of_le' hN
  have hgen := step_of_genTransferred hg
  rw [ticks_succ hgen] at hrun
  have hpins : ∀ j, j < N → (pinsAt (tickPassed (reload n s)) j).rst = false
      ∧ (pinsAt (tickPassed (reload n s)) j).cmdValid = false := fun j hj => by
    rw [pinsAt_step hgen]
    exact ⟨hr (j + 1) (by omega), hv (j + 1) (by omega) (by omega)⟩
  have ht : Delivering s.sent k t :=
    ticks_keep (Q := fun i => i.rst = false ∧ i.cmdValid = false) (fun h hq => h.step hq.1 hq.2)
      (delivering_reload hk) hpins hrun
  rw [← generate_length hk]
  exact ⟨ht.sent_eq.1, ht.sent_eq.2, ht.of_idle⟩

end Sys2Proof.Proofs.Channels

/-! SUPPORT and PROOFS. Encoding (R70 to R84): the fields of a packed command word, decoding and encoding as inverses
of each other, the words of script lines, and that every instruction, of whatever fields, answers a next state (R74,
R78, R217). -/

namespace Sys2Proof.Proofs.Encoding

open Sys2Proof Sys2Proof.Machine

/-! ### The fields of a packed word -/

@[simp] theorem cmdOp_packCmd (op : Opcode) (a b : Word) : cmdOp (packCmd op a b) = op := by
  apply BitVec.eq_of_toNat_eq
  rw [cmdOp_toNat, packCmd_toNat]
  omega

@[simp] theorem cmdA_packCmd (op : Opcode) (a b : Word) : cmdA (packCmd op a b) = a := by
  apply BitVec.eq_of_toNat_eq
  rw [cmdA_toNat, packCmd_toNat]
  omega

@[simp] theorem cmdB_packCmd (op : Opcode) (a b : Word) : cmdB (packCmd op a b) = b := by
  apply BitVec.eq_of_toNat_eq
  rw [cmdB_toNat, packCmd_toNat]
  omega

/-- A word is its three fields put together (R70). -/
theorem packCmd_of_cmdOp {w : CmdWord} {op : Opcode} (h : cmdOp w = op) : packCmd op (cmdA w) (cmdB w) = w := by
  apply BitVec.eq_of_toNat_eq
  rw [packCmd_toNat, ← h, cmdOp_toNat, cmdA_toNat, cmdB_toNat]
  omega

/-! ### Decoding undoes encoding -/

/-- The command rows turn on the fields of the packed word; the phase rows and the pin are closed codes. -/
theorem decode_encode (i : Instr) : decode (encode i) = .ok i := by
  cases i with
  | phaseIdle | draw1 | draw2 | valve | emit | phaseUnreachable5 | phaseUnreachable6 | halt | reset => rfl
  | _ => simp [encode, decode, decodeCmd]

theorem decodeCmd_of_encode {i : Instr} {w : CmdWord} (h : encode i = .command w) : decodeCmd w = i :=
  Except.ok.inj ((congrArg decode h).symm.trans (decode_encode i))

/-- A code is read back from its number of bits and its number (log 9). -/
theorem codeOfBits_width_number (c : Code) : codeOfBits c.width c.number = .ok c := by
  cases c with
  | command w => simp [codeOfBits, Code.width, Code.number, w.isLt]
  | phase c => simp [codeOfBits, Code.width, Code.number, c.isLt]
  | pin rst => cases rst <;> rfl

/-- Settles O2: the code is read back from its bits, and its instruction from the code. -/
theorem decodeOfEncodeIsTheInstruction : Obligations.DecodeOfEncodeIsTheInstruction := fun i =>
  ⟨decode_encode i, by simp only [decodeTableWord, codeOfBits_width_number, decode_encode]⟩

/-- Settles O1: the word with these fields is the encoding of the instruction named, in each of the sixteen rows. -/
theorem decodingIsTheOpcodeMap : Obligations.DecodingIsTheOpcodeMap := by
  intro op a b w hw
  obtain rfl : w = packCmd op a b := BitVec.eq_of_toNat_eq (hw.trans (packCmd_toNat op a b).symm)
  and_intros <;> rintro rfl <;> exact decodeCmd_of_encode rfl

/-! ### Encoding undoes decoding -/

theorem opcode_eq_bits (op : Opcode) :
    op = BitVec.ofBool (op.getLsbD 3) ++ BitVec.ofBool (op.getLsbD 2) ++ BitVec.ofBool (op.getLsbD 1)
      ++ BitVec.ofBool (op.getLsbD 0) := by
  revert op
  decide

/-- The bits that pick the instruction are those of the opcode its encoding packs. -/
theorem encode_decodeCmd (w : CmdWord) : encode (decodeCmd w) = .command w := by
  have hop := opcode_eq_bits (cmdOp w)
  unfold decodeCmd
  split <;> rename_i h3 h2 h1 h0 <;> rw [h3, h2, h1, h0] at hop <;>
    exact congrArg Code.command (packCmd_of_cmdOp hop)

theorem encode_decodePhase (c : PhaseCode) : encode (decodePhase c) = .phase c := by
  revert c
  decide

/-- Settles O3, for the two kinds of code whose every value selects an instruction. -/
theorem encodeOfDecodeIsTheCode : Obligations.EncodeOfDecodeIsTheCode := ⟨encode_decodeCmd, encode_decodePhase⟩

/-! ### The words of script lines -/

theorem word_of_wf {l : ScriptLine} (h : l.wf = true) : l.word = l.fields := if_pos h

theorem toNat_of_fitsField {n : Nat} (h : fitsField n = true) : (BitVec.ofNat 32 n).toNat = n :=
  Nat.mod_eq_of_lt (of_decide_eq_true h)

/-- A signed field holds a negative number as its two's complement (R82). -/
theorem toNat_of_fitsSigned {n : Int} (h : fitsSigned n = true) :
    ((BitVec.ofInt 32 n).toNat : Int) = if n < 0 then 2 ^ 32 + n else n := by
  simp only [fitsSigned, Bool.and_eq_true, decide_eq_true_eq] at h
  rw [BitVec.toNat_ofInt]
  split <;> omega

/-- Settles O5: a line that can be written has the word of its fields, and each field holds its number. -/
theorem scriptLinesStandForTheirWords : Obligations.ScriptLinesStandForTheirWords := by
  refine ⟨fun seed mask h => ⟨_, word_of_wf h, ?_⟩, fun seed h => ⟨_, word_of_wf h, ?_⟩,
    fun seed mask h => ⟨_, word_of_wf h, ?_⟩, fun seed h => ⟨_, word_of_wf h, ?_⟩,
    fun n h => ⟨_, word_of_wf h, ?_⟩, fun n h => ⟨_, word_of_wf h, ?_⟩, rfl⟩
  · obtain ⟨hseed, hmask⟩ := Bool.and_eq_true_iff.mp h
    simp [packCmd_toNat, toNat_of_fitsField hseed, toNat_of_fitsField hmask]
  · simp [packCmd_toNat, toNat_of_fitsField h]
  · obtain ⟨hseed, hmask⟩ := Bool.and_eq_true_iff.mp h
    rw [packCmd_toNat, toNat_of_fitsField hmask, ← toNat_of_fitsSigned hseed]
    simp
  · rw [packCmd_toNat, ← toNat_of_fitsSigned h]
    simp
  · simp [packCmd_toNat, toNat_of_fitsField h]
  · exact Nat.mod_eq_of_lt (of_decide_eq_true h)

/-- Settles O4, by evaluation of the nine lines of R84. -/
theorem exampleEncodingsDecode : Obligations.ExampleEncodingsDecode := by
  unfold Obligations.ExampleEncodingsDecode
  decide

/-! ### What an instruction answers -/

theorem exists_execGen_eq_next (len : Word) (s : State) : ∃ t, execGen len s = .next t := by
  unfold execGen
  split_ifs <;> exact ⟨_, rfl⟩

theorem exists_execDraw2_eq_next (s : State) : ∃ t, execDraw2 s = .next t := by
  unfold execDraw2
  split_ifs <;> exact ⟨_, rfl⟩

theorem exists_execEmit_eq_next (s : State) : ∃ t, execEmit s = .next t := by
  unfold execEmit
  split_ifs <;> exact ⟨_, rfl⟩

/-- Every command word has an effect (R74): a reserved opcode's is its fault, recorded in the next state. -/
theorem exists_execCommand_eq_next (w : CmdWord) (s : State) : ∃ t, execCommand w s = .next t := by
  unfold execCommand
  split_ifs
  · exact ⟨_, rfl⟩
  · exact ⟨_, rfl⟩
  · exact ⟨_, rfl⟩
  · exact ⟨_, rfl⟩
  · exact exists_execGen_eq_next _ s
  · exact ⟨_, rfl⟩

theorem exists_execPhaseIdle_eq_next (s : State) : ∃ t, execPhaseIdle s = .next t := by
  unfold execPhaseIdle
  split_ifs
  · exact exists_execCommand_eq_next _ s
  · exact ⟨_, rfl⟩

theorem exists_exec_eq_next (i : Instr) (s : State) : ∃ t, exec i s = .next t := by
  cases i with
  | gen len _ => exact exists_execGen_eq_next len s
  | phaseIdle => exact exists_execPhaseIdle_eq_next s
  | draw2 => exact exists_execDraw2_eq_next s
  | emit => exact exists_execEmit_eq_next s
  | _ => exact ⟨_, rfl⟩

/-- Settles O37: a tick ends where the instruction it runs does. -/
theorem everyTickHasASuccessor : Obligations.EveryTickHasASuccessor := by
  refine ⟨exists_exec_eq_next, fun s => ?_⟩
  obtain ⟨t, ht⟩ := exists_exec_eq_next (selected s) s
  exact ⟨tickPassed t, step_of_exec ht⟩

/-- Settles O6: `exec` hands the meaning of these instructions no ignored field. -/
theorem ignoredFieldsHaveNoEffect : Obligations.IgnoredFieldsHaveNoEffect := fun _ _ _ _ _ =>
  ⟨rfl, rfl, rfl, rfl, rfl, rfl, rfl, rfl, rfl, rfl, rfl, rfl, rfl, rfl⟩

end Sys2Proof.Proofs.Encoding

/-! SUPPORT and PROOFS. The stepper (R100 to R113): the transition and the guard as numbers, the states on which the
guard fires, and the trajectory under different masks. -/

namespace Sys2Proof.Proofs.Stepper

open Sys2Proof Sys2Proof.Machine

variable {p : Params} {s t mask : Word}

/-! ### The transition, as a number -/

theorem collatz_toNat_of_even (h : s.toNat % 2 = 0) : (collatz s).toNat = s.toNat / 2 := by
  rw [collatz_of_even ((bit0_eq_decide s).trans (by simp [h])), shr1_toNat]

theorem collatz_eq_tpo32_of_odd (h : s.toNat % 2 = 1) : collatz s = tpo32 s :=
  collatz_of_odd ((bit0_eq_decide s).trans (decide_eq_true h))

theorem collatz_toNat_of_odd (h : s.toNat % 2 = 1) : (collatz s).toNat = (3 * s.toNat + 1) % 2 ^ 32 := by
  rw [collatz_eq_tpo32_of_odd h, tpo32_toNat]

/-- The wrap of R103 keeps the parity, since 2 divides 2^32. -/
theorem collatz_even_of_odd (h : s.toNat % 2 = 1) : (collatz s).toNat % 2 = 0 := by
  rw [collatz_toNat_of_odd h]
  omega

/-- R103: `tpo32` is three wrapping additions. -/
theorem tpo32_eq_add32 (s : Word) : tpo32 s = add32 (add32 (add32 s s) s) 1#32 := by
  apply BitVec.eq_of_toNat_eq
  simp only [tpo32_toNat, add32_toNat, BitVec.toNat_ofNat]
  omega

/-! ### The guard -/

theorem guardSum_toNat (p : Params) (t mask : Word) :
    (guardSum p t mask).toNat = (t.toNat + mask.toNat + p.guardK.toNat) % 2 ^ 32 := by
  simp only [guardSum, add32_toNat]
  omega

theorem collatzGuard_of_two_le (p : Params) (t mask : Word) (h : 2 ≤ t.toNat) : collatzGuard p t mask = t :=
  if_neg (Nat.not_le.mpr h)

/-- R104: the guard fires, and its sum is the result. -/
theorem collatzGuard_eq_guardSum (ht : t.toNat ≤ 1) (h : guardSum p t mask ≠ 0#32) :
    collatzGuard p t mask = guardSum p t mask :=
  (if_pos ht).trans (if_neg h)

/-- R106: the guard fires with the sum 0, and the fallback is the result. -/
theorem collatzGuard_eq_fallback (ht : t.toNat ≤ 1) (h : guardSum p t mask = 0#32) :
    collatzGuard p t mask = p.stateFallback :=
  (if_pos ht).trans (if_pos h)

/-- R105 for a whole step. -/
theorem stepperStep_of_quiet (p : Params) (mask : Word) (h : 2 ≤ (collatz s).toNat) :
    (stepperStep p s mask).1 = collatz s :=
  collatzGuard_of_two_le p (collatz s) mask h

/-- Settles O7: by the parity of the state. -/
theorem collatzTransitionHalvesOrTriples : Obligations.CollatzTransitionHalvesOrTriples := by
  intro s
  refine ⟨fun heven => ?_, fun hodd => ⟨collatz_toNat_of_odd hodd, ?_, collatz_even_of_odd hodd⟩, rfl,
    fun p mask hodd hquiet => ?_⟩
  · rw [collatz_toNat_of_even heven]
    omega
  · rw [collatz_eq_tpo32_of_odd hodd, tpo32_eq_add32]
  · rw [stepperStep_of_quiet p mask hquiet]
    exact collatz_even_of_odd hodd

/-- Refutes O8: from 0x55555555 the transition wraps to 0, and with the mask 0 the guard makes 137 of it. -/
theorem not_oddStepIsFollowedByAnEvenStep : ¬ Obligations.OddStepIsFollowedByAnEvenStep := by
  intro h
  have hstep : (stepperStep Params.standard 0x55555555#32 0#32).1 = 137#32 := by decide
  have heven := h 0x55555555#32 0#32 (by decide)
  rw [hstep] at heven
  exact absurd heven (by decide)

/-- With the default addend the sum of a result of 0 or 1 vanishes for one mask each. -/
theorem default_sum_zero_iff (ht : t.toNat ≤ 1) :
    (t.toNat + mask.toNat + 137) % 2 ^ 32 = 0 ↔ mask.toNat = (2 ^ 32 - 137 - t.toNat) % 2 ^ 32 := by
  omega

/-- Settles O9: the guard's sum is a number modulo 2^32, and the guard's branches turn on it. -/
theorem guardPerturbsZeroAndOne : Obligations.GuardPerturbsZeroAndOne := by
  refine ⟨fun p t mask ht => ?_, collatzGuard_of_two_le, stepperStep_fst, rfl, rfl,
    fun t mask ht => default_sum_zero_iff ht, fun t mask ht => ?_⟩
  · rw [← guardSum_toNat]
    exact ⟨fun hne => congrArg BitVec.toNat (collatzGuard_eq_guardSum ht fun h0 => hne (congrArg BitVec.toNat h0)),
      fun h0 => collatzGuard_eq_fallback ht (BitVec.eq_of_toNat_eq h0)⟩
  · rw [default_sum_zero_iff ht]
    obtain rfl | rfl : t = 0#32 ∨ t = 1#32 := by bv_omega
    · simp [← BitVec.toNat_inj]
    · simp [← BitVec.toNat_inj]

/-! ### The states on which the guard fires -/

/-- An odd state has an even result, so 1 is the half of 2 only. -/
theorem collatz_eq_one_iff (s : Word) : collatz s = 1#32 ↔ s = 2#32 := by
  simp only [← BitVec.toNat_inj, BitVec.toNat_ofNat]
  rcases Nat.mod_two_eq_zero_or_one s.toNat with heven | hodd
  · rw [collatz_toNat_of_even heven]
    omega
  · have hres := collatz_even_of_odd hodd
    omega

/-- 3 is invertible modulo 2^32: its inverse is 0xAAAAAAAB. -/
theorem tpo32_injective : Function.Injective tpo32 := by
  intro a b hab
  have hinv (x : Word) : 0xAAAAAAAB#32 * (3#32 * x) = x := by
    rw [← mul_assoc, show 0xAAAAAAAB#32 * 3#32 = 1#32 from rfl, BitVec.one_mul]
  rw [← hinv a, ← hinv b, add_right_cancel hab]

theorem tpo32_eq_zero_iff : tpo32 s = 0#32 ↔ s = 0x55555555#32 :=
  tpo32_injective.eq_iff' rfl

/-- 0 is the half of 0, and an odd state wraps to 0 from 0x55555555 only. -/
theorem collatz_eq_zero_iff (s : Word) : collatz s = 0#32 ↔ s = 0#32 ∨ s = 0x55555555#32 := by
  rcases Nat.mod_two_eq_zero_or_one s.toNat with heven | hodd
  · simp only [← BitVec.toNat_inj, collatz_toNat_of_even heven, BitVec.toNat_ofNat]
    omega
  · have hne : s ≠ 0#32 := fun h0 => by simp [h0] at hodd
    rw [collatz_eq_tpo32_of_odd hodd, tpo32_eq_zero_iff, or_iff_right hne]

theorem collatz_le_one_iff (s : Word) :
    (collatz s).toNat ≤ 1 ↔ s = 0#32 ∨ s = 2#32 ∨ s = 0x55555555#32 := by
  have hcases : (collatz s).toNat ≤ 1 ↔ collatz s = 0#32 ∨ collatz s = 1#32 := by bv_omega
  rw [hcases, collatz_eq_zero_iff, collatz_eq_one_iff, or_assoc, or_comm (a := s = 2#32)]

/-- The steps 1, 4, 2 do not meet the guard, whatever the parameters and the mask. -/
theorem stepperStep_one (p : Params) (mask : Word) : (stepperStep p 1#32 mask).1 = 4#32 :=
  stepperStep_of_quiet p mask (by decide)

theorem stepperStep_four (p : Params) (mask : Word) : (stepperStep p 4#32 mask).1 = 2#32 :=
  stepperStep_of_quiet p mask (by decide)

/-- Settles O10: the states of result 1 and of result 0, and the walk 1, 4, 2. -/
theorem guardFiresOnThreeStates : Obligations.GuardFiresOnThreeStates :=
  ⟨collatz_eq_one_iff, collatz_eq_zero_iff, collatz_le_one_iff,
    fun p mask => ⟨stepperStep_one p mask, stepperStep_four p mask, rfl⟩⟩

/-! ### The trajectory -/

theorem trajectory_zero (p : Params) (mask s : Word) : trajectory p mask 0 s = s := rfl

theorem trajectory_succ (p : Params) (mask : Word) (n : Nat) (s : Word) :
    trajectory p mask (n + 1) s = trajectory p mask n (stepperStep p s mask).1 := rfl

/-- A step on which the guard is quiet is the transition under every mask. -/
theorem trajectory_eq_of_quiet {m m' : Word} {n : Nat}
    (h : ∀ k, k < n → 2 ≤ (collatz (trajectory p m k s)).toNat) : trajectory p m' n s = trajectory p m n s := by
  induction n generalizing s with
  | zero => rfl
  | succ n ih =>
    have hquiet : 2 ≤ (collatz s).toNat := h 0 n.succ_pos
    have hsame : (stepperStep p s m').1 = (stepperStep p s m).1 := by
      rw [stepperStep_of_quiet p m' hquiet, stepperStep_of_quiet p m hquiet]
    rw [trajectory_succ, trajectory_succ, hsame]
    exact ih fun k hk => h (k + 1) (Nat.succ_lt_succ hk)

/-- Settles O11: the guard is quiet on the first `k` of the `n` steps too. -/
theorem trajectoryIgnoresMaskWhileGuardIsQuiet : Obligations.TrajectoryIgnoresMaskWhileGuardIsQuiet :=
  ⟨collatzGuard_of_two_le, fun _ _ _ _ _ h _ hk => trajectory_eq_of_quiet fun j hj => h j (hj.trans_le hk)⟩

/-- R109: the guard's results under the default mask, from the states 0 and 2. -/
theorem stepperStep_zero_default : (stepperStep Params.standard 0#32 0xA5A5A5A5#32).1 = 0xA5A5A62E#32 := by decide

theorem stepperStep_two_default : (stepperStep Params.standard 2#32 0xA5A5A5A5#32).1 = 0xA5A5A62F#32 := by decide

/-- Settles O12: 1, 4, 2 lead one to the next, and from 2 and from 0 the guard leads out. -/
theorem trajectoryLeavesTheTrivialCycle : Obligations.TrajectoryLeavesTheTrivialCycle := by
  intro s
  by_cases h0 : s = 0#32
  · exact ⟨1, by simp [h0, trajectory_succ, trajectory_zero, stepperStep_zero_default]⟩
  by_cases h1 : s = 1#32
  · exact ⟨3, by simp [h1, trajectory_succ, trajectory_zero, stepperStep_one, stepperStep_four,
      stepperStep_two_default]⟩
  by_cases h2 : s = 2#32
  · exact ⟨1, by simp [h2, trajectory_succ, trajectory_zero, stepperStep_two_default]⟩
  by_cases h4 : s = 4#32
  · exact ⟨2, by simp [h4, trajectory_succ, trajectory_zero, stepperStep_four, stepperStep_two_default]⟩
  exact ⟨0, Nat.zero_le 3, h0, h1, h2, h4⟩

end Sys2Proof.Proofs.Stepper

/-! SUPPORT and PROOFS. The bit extractor (R120 to R128): the rotation bit by bit, its inverse, and the closed form of
the raw bit. -/

namespace Sys2Proof.Proofs.Extractor

open Sys2Proof Sys2Proof.Machine

variable {k i : Nat} {p : Params}

/-! ### The rotation -/

/-- The two shifted parts share no bit, so their sum is the library's rotation. -/
theorem rotl32_eq_rotateLeft (hk : k < 32) (x : Word) : rotl32 x k = x.rotateLeft k := by
  have hdisjoint : x <<< k &&& x >>> (32 - k) = 0#32 := by
    apply BitVec.eq_of_getLsbD_eq
    intro i hi
    by_cases h : i < k
    · simp [h]
    · simp [BitVec.getLsbD_of_ge x (32 - k + i) (by omega)]
  rw [rotl32, BitVec.add_eq_or_of_and_eq_zero _ _ hdisjoint, BitVec.rotateLeft_def, Nat.mod_eq_of_lt hk]

/-- R122, for every distance: a bit enters from `k` places below it, around the word. -/
theorem getLsbD_rotl32 (hk : k < 32) (hi : i < 32) (x : Word) :
    (rotl32 x k).getLsbD i = x.getLsbD ((i + (32 - k)) % 32) := by
  rw [rotl32_eq_rotateLeft hk, BitVec.getLsbD_rotateLeft_of_le hk]
  by_cases h : i < k
  · rw [show (i + (32 - k)) % 32 = 32 - k + i by omega]
    simp [h]
  · rw [show (i + (32 - k)) % 32 = i - k by omega]
    simp [h, hi]

theorem extractLsb'_rotl32_high (hk : k < 32) (x : Word) :
    (rotl32 x k).extractLsb' k (32 - k) = x.extractLsb' 0 (32 - k) := by
  apply BitVec.eq_of_getLsbD_eq
  intro i hi
  simp only [BitVec.getLsbD_extractLsb', getLsbD_rotl32 hk (show k + i < 32 by omega),
    show (k + i + (32 - k)) % 32 = 0 + i by omega]

theorem extractLsb'_rotl32_low (hk : k < 32) (x : Word) :
    (rotl32 x k).extractLsb' 0 k = x.extractLsb' (32 - k) k := by
  apply BitVec.eq_of_getLsbD_eq
  intro i hi
  simp only [BitVec.getLsbD_extractLsb', getLsbD_rotl32 hk (show 0 + i < 32 by omega),
    show (0 + i + (32 - k)) % 32 = 32 - k + i by omega]

/-- R127, for every distance: the two rotations together carry each bit once around the word. -/
theorem rotl32_rotl32 (h0 : 0 < k) (hk : k < 32) (x : Word) : rotl32 (rotl32 x k) (32 - k) = x := by
  apply BitVec.eq_of_getLsbD_eq
  intro i hi
  rw [getLsbD_rotl32 (show 32 - k < 32 by omega) hi, getLsbD_rotl32 hk (Nat.mod_lt _ (by decide))]
  congr 1
  omega

theorem rotl32_bijective (h0 : 0 < k) (hk : k < 32) : Function.Bijective fun x : Word => rotl32 x k := by
  refine Function.bijective_iff_has_inverse.mpr ⟨fun x => rotl32 x (32 - k), rotl32_rotl32 h0 hk, fun x => ?_⟩
  have h := rotl32_rotl32 (show 0 < 32 - k by omega) (show 32 - k < 32 by omega) x
  rwa [show 32 - (32 - k) = k by omega] at h

/-- Settles O14: the general facts at the distance 5, whose complement is 27. -/
theorem rotationIsABijection : Obligations.RotationIsABijection := by
  have h0 : 0 < 5 := by decide
  have h5 : 5 < 32 := by decide
  exact ⟨fun x i hi => getLsbD_rotl32 h5 hi x,
    fun x => ⟨extractLsb'_rotl32_high h5 x, extractLsb'_rotl32_low h5 x⟩,
    rotl32_rotl32 h0 h5, rotl32_bijective h0 h5, fun p g mask hrot => by rw [extract, hrot]⟩

/-! ### The raw bit -/

/-- R124, for every legal distance: bit 0 enters from bit `32 - ROT` of the masked state. -/
theorem extract_eq_xor (h0 : 0 < p.rot) (hk : p.rot < 32) (g mask : Word) :
    extract p g mask = (g.getLsbD (32 - p.rot) ^^ mask.getLsbD (32 - p.rot)) := by
  rw [extract, getLsbD_rotl32 hk (by decide), show (0 + (32 - p.rot)) % 32 = 32 - p.rot by omega, xor32,
    BitVec.getLsbD_xor]

/-- R124 at the distance of R6. -/
theorem extract_eq_xor_bit27 (h : p.rot = 5) (g mask : Word) :
    extract p g mask = (g.getLsbD 27 ^^ mask.getLsbD 27) := by
  simpa [h] using extract_eq_xor (p := p) (by omega) (by omega) g mask

/-- Settles O13: by the closed form, which reads one bit of the mask. -/
theorem rawBitIsBit27 : Obligations.RawBitIsBit27 :=
  ⟨fun _ g mask h => ⟨extract_eq_xor_bit27 h g mask, fun mask' hm => by
      rw [extract_eq_xor_bit27 h, extract_eq_xor_bit27 h, hm]⟩,
    fun _ g mask h0 hk => extract_eq_xor h0 hk g mask⟩

end Sys2Proof.Proofs.Extractor

/-! SUPPORT and PROOFS. The debiaser (R131 to R144): its three micro-operations, the discard counter, the valve, and
the refinement of `next_balanced_bit` by the ticks of the sequencer. -/

namespace Sys2Proof.Proofs.Debiaser

open Sys2Proof Sys2Proof.Machine Sys2Proof.Claims Sys2Proof.Proofs.Registers Sys2Proof.Proofs.Channels
  Sys2Proof.Proofs.Encoding Sys2Proof.Proofs.Stepper

variable {s t u : State} {m n : Nat}

/-! ### The micro-operations -/

/-- Settles O26: `DRAW1` latches the step's state and raw bit. -/
theorem draw1StepsAndLatches : Obligations.Draw1StepsAndLatches := by
  intro s
  refine ⟨_, rfl, rfl, rfl, rfl, rfl, rfl, rfl, latchFirst_keeps _ _ s, rfl, fun hcfg hmask hstate => ?_,
    fun hp hr => step_draw1 hr hp⟩
  rw [latchFirst_state, latchFirst_b1, hcfg, hmask, hstate]
  decide

theorem exec_draw2_of_unequal (h : s.b1 ≠ (stepperStep s.cfg s.state s.mask).2) :
    exec .draw2 s = .next (acceptPair (stepperStep s.cfg s.state s.mask).1 s) :=
  if_pos h

theorem exec_draw2_of_equal (h : s.b1 = (stepperStep s.cfg s.state s.mask).2) :
    exec .draw2 s = .next (discardPair (stepperStep s.cfg s.state s.mask).1 s) :=
  if_neg (not_not.mpr h)

/-- Settles O27: an equal pair is discarded, an unequal one accepted with its first bit. -/
theorem draw2JudgesThePair : Obligations.Draw2JudgesThePair := by
  intro s
  by_cases heq : s.b1 = (stepperStep s.cfg s.state s.mask).2
  · refine ⟨_, exec_draw2_of_equal heq, rfl, fun h0 h1 => ?_, fun h1 h0 => ?_,
      fun _ => ⟨rfl, rfl, fun hlim => if_pos hlim, fun hlim => if_neg (not_lt.mpr hlim)⟩,
      fun hne => absurd heq hne, rfl, rfl, discardPair_keeps _ s, rfl, fun hp hr => step_discard hr hp heq⟩
    · exact absurd (h0.symm.trans (heq.trans h1)) (by decide)
    · exact absurd (h1.symm.trans (heq.trans h0)) (by decide)
  · exact ⟨_, exec_draw2_of_unequal heq, rfl, fun h0 _ => ⟨h0, rfl, rfl⟩, fun h1 _ => ⟨h1, rfl, rfl⟩,
      fun h => absurd h heq, fun _ => ⟨rfl, Bool.eq_not_of_ne heq⟩, rfl, rfl, acceptPair_keeps _ s, rfl,
      fun hp hr => step_accept hr hp heq⟩

/-- R138 as a number: the sum of 32 bits is the same whether the count is reduced before or not. -/
theorem add32_zext32_toNat (w : Word) (n : Nat) : (add32 w (zext32 n)).toNat = (w.toNat + n) % 2 ^ 32 := by
  simp only [add32_toNat, zext32, BitVec.toNat_ofNat, Nat.add_mod_mod]

/-- Settles O28: the effect is `fireValve`'s, and the phase's count is R36 (d). -/
theorem valveAddsTheCount : Obligations.ValveAddsTheCount := fun s =>
  ⟨_, rfl, add32_zext32_toNat s.state s.cnt, rfl, rfl, rfl, rfl, rfl, fireValve_keeps s, rfl, Inv.valveCount,
    fun hp hr => step_valve hr hp⟩

/-! ### The discard counter -/

theorem discardLimit_lt_of_wf {p : Params} (h : p.wf = true) : p.discardLimit + 1 < 2 ^ p.cntW := by
  simp only [Params.wf, Bool.and_eq_true, decide_eq_true_eq] at h
  obtain ⟨⟨⟨-, hlimit⟩, -⟩, -⟩ := h
  exact hlimit

/-- The count is largest in `VALVE`. -/
theorem cnt_le_of_inv (h : Inv s) : s.cnt ≤ s.cfg.discardLimit + 1 := by
  have hph := phaseInv_of_inv h
  cases hp : s.phase <;> simp only [PhaseInv, hp] at hph <;> omega

/-- Settles O41: R36 (d) bounds the count, and R7 the bound. -/
theorem counterNeverWraps : Obligations.CounterNeverWraps := by
  refine ⟨fun s h => ?_, rfl, rfl⟩
  have hlimit := discardLimit_lt_of_wf h.params
  refine ⟨(cnt_le_of_inv h).trans_lt hlimit, fun hp => ?_⟩
  have hcnt := h.drawCount (.inr hp)
  exact ⟨hcnt, Nat.succ_le_succ hcnt, hlimit⟩

/-! ### One round of the functional form -/

section
variable {p : Params} {mask w : Word} {cnt fuel fuel' : Nat}

/-- R133: an unequal pair ends the extraction. -/
theorem nbbLoop_of_unequal (h : rawBit p mask 0 w ≠ rawBit p mask 1 w) :
    nbbLoop p mask (fuel + 1) w cnt
      = some { state := trajectory p mask 2 w, bit := rawBit p mask 0 w, pairs := 1, firings := 0 } :=
  if_pos h

/-- R134, R138: an equal pair beyond the limit goes on through the valve. -/
theorem nbbLoop_of_equal_beyond (h : rawBit p mask 0 w = rawBit p mask 1 w) (hlim : cnt + 1 > p.discardLimit) :
    nbbLoop p mask (fuel + 1) w cnt
      = (nbbLoop p mask fuel (add32 (trajectory p mask 2 w) (zext32 (cnt + 1))) 0).map (BitResult.afterDiscard 1) :=
  (if_neg (not_not.mpr h)).trans (if_pos hlim)

/-- R134: an equal pair within the limit goes on with the next pair. -/
theorem nbbLoop_of_equal_within (h : rawBit p mask 0 w = rawBit p mask 1 w) (hlim : ¬ cnt + 1 > p.discardLimit) :
    nbbLoop p mask (fuel + 1) w cnt
      = (nbbLoop p mask fuel (trajectory p mask 2 w) (cnt + 1)).map (BitResult.afterDiscard 0) :=
  (if_neg (not_not.mpr h)).trans (if_neg hlim)

theorem nbbLoop_mono {r : BitResult} (h : nbbLoop p mask fuel w cnt = some r) (hle : fuel ≤ fuel') :
    nbbLoop p mask fuel' w cnt = some r := by
  induction fuel generalizing w cnt fuel' r with
  | zero => cases h
  | succ fuel ih =>
    obtain ⟨fuel', rfl⟩ := Nat.exists_eq_add_of_le' (Nat.one_le_of_lt hle)
    have hle := Nat.le_of_succ_le_succ hle
    by_cases heq : rawBit p mask 0 w = rawBit p mask 1 w
    · by_cases hlim : cnt + 1 > p.discardLimit
      · rw [nbbLoop_of_equal_beyond heq hlim] at h ⊢
        obtain ⟨r', hr', rfl⟩ := Option.map_eq_some_iff.mp h
        rw [ih hr' hle, Option.map_some]
      · rw [nbbLoop_of_equal_within heq hlim] at h ⊢
        obtain ⟨r', hr', rfl⟩ := Option.map_eq_some_iff.mp h
        rw [ih hr' hle, Option.map_some]
    · rw [nbbLoop_of_unequal heq] at h ⊢
      exact h

end

/-- Settles O51: the fuel is only ever compared with 0. -/
theorem moreFuelGivesTheSameExtraction : Obligations.MoreFuelGivesTheSameExtraction :=
  fun _ _ _ _ _ _ _ h hle => nbbLoop_mono h hle

/-! ### What an extraction keeps -/

/-- What `n` ticks of `DRAW1`, `DRAW2`, `VALVE` keep, the inputs of these ticks being spent. -/
structure KeptFor (n : Nat) (s t : State) : Prop where
  cfg : t.cfg = s.cfg
  seed : t.seed = s.seed
  mask : t.mask = s.mask
  rem : t.rem = s.rem
  inited : t.inited = s.inited
  seedSubst : t.seedSubst = s.seedSubst
  fcause : t.fcause = s.fcause
  fop : t.fop = s.fop
  sent : t.sent = s.sent
  inputs : t.inputs = s.inputs.drop n

theorem KeptFor.refl (s : State) : KeptFor 0 s s := ⟨rfl, rfl, rfl, rfl, rfl, rfl, rfl, rfl, rfl, rfl⟩

theorem KeptFor.trans (h : KeptFor m s t) (h' : KeptFor n t u) : KeptFor (m + n) s u where
  cfg := h'.cfg.trans h.cfg
  seed := h'.seed.trans h.seed
  mask := h'.mask.trans h.mask
  rem := h'.rem.trans h.rem
  inited := h'.inited.trans h.inited
  seedSubst := h'.seedSubst.trans h.seedSubst
  fcause := h'.fcause.trans h.fcause
  fop := h'.fop.trans h.fop
  sent := h'.sent.trans h.sent
  inputs := by rw [h'.inputs, h.inputs, List.drop_drop]

/-- A tick keeps what its micro-operation does. -/
theorem keptFor_tickPassed (h : FlagsAndKeyKept s t) (hrem : t.rem = s.rem) (hsent : t.sent = s.sent) :
    KeptFor 1 s (tickPassed t) := by
  obtain ⟨hseed, hmask, hinit, hsubst, hfc, hfop, hcfg, hinputs⟩ := h
  exact ⟨hcfg, hseed, hmask, hrem, hinit, hsubst, hfc, hfop, hsent,
    by rw [tickPassed_inputs, hinputs, List.drop_one]⟩

/-! ### A host that does not reset -/

theorem rst_of_noReset (h : NoReset (n + 1) s) : s.pins.rst = false := pinsAt_zero s ▸ h 0 n.succ_pos

theorem noReset_mono (h : NoReset n s) (hle : m ≤ n) : NoReset m s := fun k hk => h k (hk.trans_le hle)

theorem KeptFor.noReset (hkept : KeptFor m s t) (h : NoReset (m + n) s) : NoReset n t := fun k hk => by
  have hk' := h (m + k) (Nat.add_lt_add_left hk m)
  simpa [pinsAt, hkept.inputs, List.getD_eq_getElem?_getD] using hk'

/-! ### A pair and a firing, as runs of the sequencer -/

/-- The state after the tick of `DRAW1`. -/
def firstDrawn (s : State) : State :=
  tickPassed (latchFirst (trajectory s.cfg s.mask 1 s.state) (rawBit s.cfg s.mask 0 s.state) s)

theorem step_firstDrawn (hr : s.pins.rst = false) (hp : s.phase = .draw1) : step s = .next (firstDrawn s) :=
  step_draw1 hr hp

theorem keptFor_firstDrawn (s : State) : KeptFor 1 s (firstDrawn s) :=
  keptFor_tickPassed (latchFirst_keeps _ _ s) rfl rfl

theorem ticks_one (h : step s = .next t) : ticks 1 s = .next t := ticks_succ h

theorem ticks_two (h : step s = .next t) (h' : step t = .next u) : ticks 2 s = .next u :=
  (ticks_succ h).trans (ticks_one h')

/-- An accepted pair takes two ticks to `EMIT`. -/
theorem ticks_accept (hp : s.phase = .draw1) (hr : NoReset 2 s)
    (hne : rawBit s.cfg s.mask 0 s.state ≠ rawBit s.cfg s.mask 1 s.state) :
    ∃ t, ticks 2 s = .next t ∧ t.phase = .emit ∧ t.state = trajectory s.cfg s.mask 2 s.state
      ∧ t.out = rawBit s.cfg s.mask 0 s.state ∧ t.cnt = 0 ∧ KeptFor 2 s t :=
  have hr' : NoReset 1 (firstDrawn s) := (keptFor_firstDrawn s).noReset hr
  ⟨_, ticks_two (step_firstDrawn (rst_of_noReset hr) hp) (step_accept (rst_of_noReset hr') rfl hne), rfl, rfl, rfl,
    rfl, (keptFor_firstDrawn s).trans (keptFor_tickPassed (acceptPair_keeps _ _) rfl rfl)⟩

/-- A discarded pair takes two ticks, to `VALVE` beyond the limit and to `DRAW1` within it. -/
theorem ticks_discard (hp : s.phase = .draw1) (hr : NoReset 2 s)
    (heq : rawBit s.cfg s.mask 0 s.state = rawBit s.cfg s.mask 1 s.state) :
    ∃ t, ticks 2 s = .next t ∧ t.phase = (if s.cnt + 1 > s.cfg.discardLimit then .valve else .draw1)
      ∧ t.state = trajectory s.cfg s.mask 2 s.state ∧ t.cnt = s.cnt + 1 ∧ KeptFor 2 s t :=
  have hr' : NoReset 1 (firstDrawn s) := (keptFor_firstDrawn s).noReset hr
  ⟨_, ticks_two (step_firstDrawn (rst_of_noReset hr) hp) (step_discard (rst_of_noReset hr') rfl heq), rfl, rfl, rfl,
    (keptFor_firstDrawn s).trans (keptFor_tickPassed (discardPair_keeps _ _) rfl rfl)⟩

/-- A firing takes one tick. -/
theorem ticks_valve (hp : s.phase = .valve) (hr : NoReset 1 s) :
    ∃ t, ticks 1 s = .next t ∧ t.phase = .draw1 ∧ t.state = add32 s.state (zext32 s.cnt) ∧ t.cnt = 0
      ∧ KeptFor 1 s t :=
  ⟨_, ticks_one (step_valve (rst_of_noReset hr) hp), rfl, rfl, rfl, keptFor_tickPassed (fireValve_keeps s) rfl rfl⟩

/-- Beyond the limit a discarded pair and the firing after it take three ticks back to `DRAW1`. -/
theorem ticks_discard_beyond (hp : s.phase = .draw1) (hr : NoReset (2 + 1) s)
    (heq : rawBit s.cfg s.mask 0 s.state = rawBit s.cfg s.mask 1 s.state) (hlim : s.cnt + 1 > s.cfg.discardLimit) :
    ∃ t, ticks (2 + 1) s = .next t ∧ t.phase = .draw1
      ∧ t.state = add32 (trajectory s.cfg s.mask 2 s.state) (zext32 (s.cnt + 1)) ∧ t.cnt = 0
      ∧ KeptFor (2 + 1) s t := by
  obtain ⟨t, hrun, htp, hts, htc, hkept⟩ := ticks_discard hp (noReset_mono hr (Nat.le_succ 2)) heq
  obtain ⟨u, hrun', hup, hus, huc, hkept'⟩ := ticks_valve (htp.trans (if_pos hlim)) (hkept.noReset hr)
  exact ⟨u, (ticks_add hrun).trans hrun', hup, by rw [hus, hts, htc], huc, hkept.trans hkept'⟩

/-! ### A run of discards -/

theorem trajectory_add (p : Params) (mask : Word) (m n : Nat) (w : Word) :
    trajectory p mask (m + n) w = trajectory p mask n (trajectory p mask m w) := by
  induction m generalizing w with
  | zero => rw [Nat.zero_add, trajectory_zero]
  | succ m ih => rw [Nat.succ_add, trajectory_succ, ih, trajectory_succ]

theorem rawBit_add (p : Params) (mask : Word) (m n : Nat) (w : Word) :
    rawBit p mask (m + n) w = rawBit p mask n (trajectory p mask m w) := by
  rw [rawBit, trajectory_add, rawBit]

/-- `n` discards take `2n` ticks; only the last of `DISCARD_LIMIT + 1` reaches `VALVE`. -/
theorem ticks_discards (hp : s.phase = .draw1) (hc : s.cnt = 0) (hn : n ≤ s.cfg.discardLimit + 1)
    (hd : AllDiscards s.cfg s.mask s.state n) (hr : NoReset (2 * n) s) :
    ∃ t, ticks (2 * n) s = .next t ∧ t.phase = (if n = s.cfg.discardLimit + 1 then .valve else .draw1)
      ∧ t.state = trajectory s.cfg s.mask (2 * n) s.state ∧ t.cnt = n ∧ KeptFor (2 * n) s t := by
  induction n with
  | zero => exact ⟨s, rfl, hp, rfl, hc, .refl s⟩
  | succ n ih =>
    obtain ⟨t, hrun, htp, hts, htc, hkept⟩ :=
      ih (by omega) (fun k hk => hd k (by omega)) (noReset_mono hr (by omega))
    rw [if_neg (by omega)] at htp
    have hpair : rawBit t.cfg t.mask 0 t.state = rawBit t.cfg t.mask 1 t.state := by
      rw [hkept.cfg, hkept.mask, hts, ← rawBit_add, ← rawBit_add]
      exact hd n n.lt_succ_self
    obtain ⟨u, hrun', hup, hus, huc, hkept'⟩ := ticks_discard htp (hkept.noReset hr) hpair
    refine ⟨u, (ticks_add hrun).trans hrun', ?_, ?_, by rw [huc, htc], hkept.trans hkept'⟩
    · rw [hup, htc, hkept.cfg]
      exact if_congr (by omega) rfl rfl
    · rw [hus, hkept.cfg, hkept.mask, hts, ← trajectory_add]
      rfl

/-- Settles O42: the run of discards, and the tick of `VALVE` after it. -/
theorem valveFiresAfterLimitPlusOneDiscards : Obligations.ValveFiresAfterLimitPlusOneDiscards := by
  intro s n hp hc hn hd
  constructor
  · intro hr
    obtain ⟨t, hrun, htp, hts, htc, hkept⟩ := ticks_discards hp hc hn hd hr
    exact ⟨t, hrun, hts, htc, hkept.sent, htp⟩
  · intro hr hlim
    obtain ⟨t, hrun, htp, hts, htc, hkept⟩ := ticks_discards hp hc hn hd (noReset_mono hr (by omega))
    obtain ⟨u, hrun', hup, hus, huc, -⟩ := ticks_valve (htp.trans (if_pos hlim)) (hkept.noReset hr)
    refine ⟨u, (ticks_add hrun).trans hrun', ?_, huc, hup⟩
    rw [hus, add32_zext32_toNat, hts, htc, hlim]

/-! ### The refinement, where the extraction is defined -/

/-- The run from `s` reaches `EMIT` with the result `r` after `2k + v` ticks (R144). -/
def EmitsAfter (s : State) (r : BitResult) : Prop :=
  ∃ t, ticks (2 * r.pairs + r.firings) s = .next t ∧ t.phase = .emit ∧ t.state = r.state ∧ t.out = r.bit
    ∧ t.cnt = 0 ∧ KeptFor (2 * r.pairs + r.firings) s t

/-- The ticks of a discarded pair, with the firing after it or without, come before those of the rest. -/
theorem length_afterDiscard (v : Nat) (r : BitResult) :
    2 * (r.afterDiscard v).pairs + (r.afterDiscard v).firings = (2 + v) + (2 * r.pairs + r.firings) := by
  simp only [BitResult.afterDiscard]
  omega

theorem EmitsAfter.afterDiscard {r : BitResult} {v : Nat} (h : EmitsAfter t r) (hrun : ticks (2 + v) s = .next t)
    (hkept : KeptFor (2 + v) s t) : EmitsAfter s (r.afterDiscard v) := by
  obtain ⟨u, hrun', hp, hstate, hout, hcnt, hkept'⟩ := h
  refine ⟨u, ?_, hp, hstate, hout, hcnt, ?_⟩
  · rw [length_afterDiscard, ticks_add hrun, hrun']
  · rw [length_afterDiscard]
    exact hkept.trans hkept'

/-- R144 for any count: by the pairs the function draws. -/
theorem emitsAfter_of_nbbLoop {fuel : Nat} {r : BitResult} (hp : s.phase = .draw1)
    (h : nbbLoop s.cfg s.mask fuel s.state s.cnt = some r) (hr : NoReset (2 * r.pairs + r.firings) s) :
    EmitsAfter s r := by
  induction fuel generalizing s r with
  | zero => cases h
  | succ fuel ih =>
    by_cases heq : rawBit s.cfg s.mask 0 s.state = rawBit s.cfg s.mask 1 s.state
    · by_cases hlim : s.cnt + 1 > s.cfg.discardLimit
      · rw [nbbLoop_of_equal_beyond heq hlim] at h
        obtain ⟨r, hrest, rfl⟩ := Option.map_eq_some_iff.mp h
        rw [length_afterDiscard] at hr
        obtain ⟨t, hrun, htp, hts, htc, hkept⟩ := ticks_discard_beyond hp (noReset_mono hr (by omega)) heq hlim
        rw [← hts, ← htc, ← hkept.cfg, ← hkept.mask] at hrest
        exact (ih htp hrest (hkept.noReset hr)).afterDiscard hrun hkept
      · rw [nbbLoop_of_equal_within heq hlim] at h
        obtain ⟨r, hrest, rfl⟩ := Option.map_eq_some_iff.mp h
        rw [length_afterDiscard] at hr
        obtain ⟨t, hrun, htp, hts, htc, hkept⟩ := ticks_discard hp (noReset_mono hr (by omega)) heq
        rw [← hts, ← htc, ← hkept.cfg, ← hkept.mask] at hrest
        exact (ih (htp.trans (if_neg hlim)) hrest (hkept.noReset hr)).afterDiscard hrun hkept
    · rw [nbbLoop_of_unequal heq] at h
      obtain rfl := Option.some.inj h
      exact ticks_accept hp hr heq

/-! ### The refinement, where the extraction is undefined -/

section
variable {p : Params} {mask w : Word} {cnt : Nat}

/-- `nbb_loop` of R143 is undefined at the state `w` with the count `cnt` (R142). -/
def Undefined (p : Params) (mask w : Word) (cnt : Nat) : Prop := ∀ fuel, nbbLoop p mask fuel w cnt = none

theorem Undefined.equal (h : Undefined p mask w cnt) : rawBit p mask 0 w = rawBit p mask 1 w := by
  by_contra hne
  have hdefined := nbbLoop_of_unequal (fuel := 0) (cnt := cnt) hne
  rw [h 1] at hdefined
  cases hdefined

theorem Undefined.beyond (h : Undefined p mask w cnt) (hlim : cnt + 1 > p.discardLimit) :
    Undefined p mask (add32 (trajectory p mask 2 w) (zext32 (cnt + 1))) 0 := fun fuel =>
  Option.map_eq_none_iff.mp ((nbbLoop_of_equal_beyond h.equal hlim).symm.trans (h (fuel + 1)))

theorem Undefined.within (h : Undefined p mask w cnt) (hlim : ¬ cnt + 1 > p.discardLimit) :
    Undefined p mask (trajectory p mask 2 w) (cnt + 1) := fun fuel =>
  Option.map_eq_none_iff.mp ((nbbLoop_of_equal_within h.equal hlim).symm.trans (h (fuel + 1)))

end

/-- An extraction that never ends is under way in `s`: what each of the three phases that work on one knows of R143's
function. -/
inductive Unending (s : State) : Prop where
  /-- A pair begins. -/
  | draw1 (hp : s.phase = .draw1) (h : Undefined s.cfg s.mask s.state s.cnt)
  /-- A pair began in the state `w`. -/
  | draw2 {w : Word} (hp : s.phase = .draw2) (hstate : s.state = trajectory s.cfg s.mask 1 w)
      (hbit : s.b1 = rawBit s.cfg s.mask 0 w) (h : Undefined s.cfg s.mask w s.cnt)
  /-- The next pair begins in the perturbed state. -/
  | valve (hp : s.phase = .valve) (h : Undefined s.cfg s.mask (add32 s.state (zext32 s.cnt)) 0)

theorem Unending.searching (h : Unending s) : Searching s.phase := by
  cases h with
  | draw1 hp _ => exact .inl hp
  | draw2 hp _ _ _ => exact .inr (.inl hp)
  | valve hp _ => exact .inr (.inr hp)

theorem ne_emit_of_searching {p : Phase} (h : Searching p) : p ≠ .emit := by
  obtain rfl | rfl | rfl := h <;> simp

/-- The second bit of the pair begun in `w` equals the first, so `DRAW2` discards it. -/
theorem unending_discardPair {w : Word} (hstate : s.state = trajectory s.cfg s.mask 1 w)
    (h : Undefined s.cfg s.mask w s.cnt) :
    Unending (tickPassed (discardPair (stepperStep s.cfg s.state s.mask).1 s)) := by
  have hpair : (stepperStep s.cfg s.state s.mask).1 = trajectory s.cfg s.mask 2 w := by rw [hstate]; rfl
  rw [hpair]
  by_cases hlim : s.cnt + 1 > s.cfg.discardLimit
  · exact .valve (if_pos hlim) (h.beyond hlim)
  · exact .draw1 (if_neg hlim) (h.within hlim)

theorem Unending.step (h : Unending s) (hr : s.pins.rst = false) (hstep : step s = .next t) : Unending t := by
  cases h with
  | draw1 hp h =>
    obtain rfl := Host.Outcome.next.inj ((step_draw1 hr hp).symm.trans hstep)
    exact .draw2 rfl rfl rfl h
  | @draw2 w hp hstate hbit h =>
    have hraw : (stepperStep s.cfg s.state s.mask).2 = rawBit s.cfg s.mask 1 w := by rw [hstate]; rfl
    have heq := (hbit.trans h.equal).trans hraw.symm
    obtain rfl := Host.Outcome.next.inj ((step_discard hr hp heq).symm.trans hstep)
    exact unending_discardPair hstate h
  | valve hp h =>
    obtain rfl := Host.Outcome.next.inj ((step_valve hr hp).symm.trans hstep)
    exact .draw1 rfl h

theorem exists_ticks_eq_next (n : Nat) (s : State) : ∃ t, ticks n s = .next t := by
  induction n generalizing s with
  | zero => exact ⟨s, rfl⟩
  | succ n ih =>
    obtain ⟨t, ht⟩ := everyTickHasASuccessor.2 s
    rw [ticks_succ ht]
    exact ih t

/-- R144's last sentence, for a run from any of the three phases. -/
theorem Unending.ticks (h : Unending s) (hr : NoReset n s) (hrun : ticks n s = .next t) : Unending t :=
  ticks_keep (Q := fun i => i.rst = false) (fun h hr => h.step hr) h hr hrun

/-- Settles O52: where the function is defined by the pairs it draws, where it is not by what every tick keeps. -/
theorem sequencerRefinesNextBalancedBit : Obligations.SequencerRefinesNextBalancedBit := by
  constructor
  · intro s fuel r hp hc h hr
    obtain ⟨t, hrun, htp, hts, hto, htc, hk⟩ := emitsAfter_of_nbbLoop hp (by rw [hc]; exact h) hr
    exact ⟨t, hrun, htp, hts, hto, htc, hk.rem, hk.sent, hk.seed, hk.mask, hk.inited, hk.seedSubst, hk.fcause, hk.fop,
      hk.cfg, hk.inputs⟩
  · intro s hp hc h n hr
    obtain ⟨t, hrun⟩ := exists_ticks_eq_next n s
    have hunending : Unending s := .draw1 hp (hc ▸ h)
    exact ⟨t, hrun, ne_emit_of_searching (hunending.ticks hr hrun).searching⟩

end Sys2Proof.Proofs.Debiaser

/-! SUPPORT and PROOFS. The sequencer (R150 to R159): which instruction a tick runs, the phase it leaves, and the phases
in which a tick changes nothing (`IDLE` without a command, `EMIT` without a ready host, `HALT`). -/

namespace Sys2Proof.Proofs.Sequencer

open Sys2Proof Sys2Proof.Machine Sys2Proof.Claims Sys2Proof.Proofs.Registers Sys2Proof.Proofs.Channels
  Sys2Proof.Proofs.Encoding

variable {s t u : State} {n : Nat}

/-! ### Which instruction a tick runs -/

/-- Outside `IDLE`, and without a reset, the phase register selects the instruction (R80, R150). -/
theorem step_of_phase {p : Phase} (hr : s.pins.rst = false) (hp : s.phase = p) (hne : p ≠ .idle) :
    step s = afterTick (exec (decodePhase p.code) s) := by
  rw [step_eq_afterTick, selected_of_phase hr (hp ▸ hne), hp]

theorem step_of_command (hr : s.pins.rst = false) (hp : s.phase = .idle) (hv : s.pins.cmdValid = true) :
    step s = afterTick (exec (decodeCmd s.pins.cmd) s) := by
  rw [step_eq_afterTick, selected_of_command hr hp hv]

/-- Settles O34: the cases of what a tick selects. -/
theorem tickRunsTheSelectedInstruction : Obligations.TickRunsTheSelectedInstruction := fun _ =>
  ⟨step_reset, step_of_command, step_idle, fun hr hp => step_of_phase hr hp (by decide),
    fun hr hp => step_of_phase hr hp (by decide), fun hr hp => step_of_phase hr hp (by decide),
    fun hr hp _ => step_of_phase hr hp (by decide), step_emit_wait, fun hr hp => step_stuck hr (.inl hp)⟩

/-- The phase register holds a code that was put there (log 10). -/
theorem phaseOfCode_code (c : PhaseCode) : (phaseOfCode c).code = c := by
  revert c
  decide

/-- Where a phase code is placed no command is offered, so the phase register selects, in `IDLE` too. -/
theorem selected_placeCode_phase (c : PhaseCode) (s : State) : selected (placeCode (.phase c) s) = decodePhase c := by
  simp [placeCode, selected, commandTransfer, TickIn.quiet, phaseOfCode_code]

theorem selected_placeCode {c : Code} {i : Instr} (h : decode c = .ok i) (s : State) :
    selected (placeCode c s) = i := by
  cases c with
  | command w => exact (selected_of_command rfl rfl rfl).trans (Except.ok.inj h)
  | phase c => exact (selected_placeCode_phase c s).trans (Except.ok.inj h)
  | pin rst =>
    cases rst with
    | true => exact (selected_of_rst rfl).trans (Except.ok.inj h)
    | false => cases h

theorem exists_code_of_decodeTableWord {nbits w : Nat} {i : Instr} (h : decodeTableWord nbits w = some i) :
    ∃ c, codeOfBits nbits w = .ok c ∧ decode c = .ok i := by
  unfold decodeTableWord at h
  split at h
  · cases h
  next c hc =>
    split at h
    · cases h
    next hi => exact ⟨c, hc, hi.trans (congrArg Except.ok (Option.some.inj h))⟩

/-- Settles O35: the bits' code is placed, and the placed code's instruction is the one selected. -/
theorem placedInstructionIsTheOneThatRuns : Obligations.PlacedInstructionIsTheOneThatRuns := by
  intro s nbits w i h
  obtain ⟨c, hc, hi⟩ := exists_code_of_decodeTableWord h
  have hplaced : s.withFetchWord nbits w = placeCode c s := by simp only [State.withFetchWord, hc]
  rw [hplaced, step_eq_afterTick, selected_placeCode hi]

/-! ### The next phase -/

theorem commandCase_phase_of_construction {w : CmdWord} (hc : CommandCase w s t) (h : Construction (cmdOp w)) :
    t.phase = .idle := by
  cases hc with
  | construct _ _ _ => rfl
  | gen hop _ | genFault hop _ => simp [Construction, hop] at h
  | reserved hop =>
    obtain ⟨h4, h5, h6, h7, -⟩ := hop
    simp [Construction, h4, h5, h6, h7] at h

theorem commandCase_phase_of_gen {w : CmdWord} (hc : CommandCase w s t) (h : cmdOp w = 8#4) :
    t.phase = if s.inited = true then (if cmdA w = 0#32 then .idle else .draw1) else .halt := by
  cases hc with
  | construct _ _ hop => simp [h] at hop
  | gen _ hi | genFault _ hi => simp [hi]
  | reserved hop => simp [h] at hop

theorem commandCase_phase_of_reserved {w : CmdWord} (hc : CommandCase w s t) (h : Reserved (cmdOp w)) :
    t.phase = .halt := by
  cases hc with
  | construct _ _ hop =>
    obtain ⟨h4, h5, h6, h7, -⟩ := h
    simp [h4, h5, h6, h7] at hop
  | gen hop _ => simp [Reserved, hop] at h
  | genFault _ _ | reserved _ => rfl

/-- The phase after a tick is the one its operation on the registers leaves. -/
theorem phase_of_step (h : step s = .next t) (hu : step s = .next (tickPassed u)) : t.phase = u.phase :=
  have htu : t = tickPassed u := Host.Outcome.next.inj (h.symm.trans hu)
  htu ▸ tickPassed_phase u

theorem phase_of_step_command (hr : s.pins.rst = false) (hp : s.phase = .idle) (hv : s.pins.cmdValid = true)
    (h : step s = .next t) : ∃ u, CommandCase s.pins.cmd s u ∧ t.phase = u.phase := by
  obtain ⟨u, hu⟩ := exists_execCommand_eq_next s.pins.cmd s
  exact ⟨u, execCommand_next hu, phase_of_step h (step_command hr hp hv hu)⟩

/-- The phase after the tick of a `GEN` (R153, R202). -/
theorem phase_of_step_gen (hr : s.pins.rst = false) (hp : s.phase = .idle) (hv : s.pins.cmdValid = true)
    (h : step s = .next t) (hop : cmdOp s.pins.cmd = 8#4) :
    t.phase = if s.inited = true then (if cmdA s.pins.cmd = 0#32 then .idle else .draw1) else .halt := by
  obtain ⟨u, hc, hphase⟩ := phase_of_step_command hr hp hv h
  exact hphase.trans (commandCase_phase_of_gen hc hop)

/-- Settles O36: each row is the phase that the operation of that row's tick leaves. -/
theorem nextPhaseTable : Obligations.NextPhaseTable := by
  intro s t h
  refine ⟨fun hr => phase_of_step h (step_reset hr), fun hr => ?_⟩
  have hcommand := fun hp hv => phase_of_step_command hr hp hv h
  have hgen := fun hp hv => phase_of_step_gen hr hp hv h
  refine ⟨?idle, ?construct, ?genNone, ?genSome, ?genFault, ?reserved, ?draw1, ?accept, ?within, ?beyond, ?valve,
    ?wait, ?last, ?more, ?halt⟩
  case idle => exact fun hp hv => (phase_of_step h (step_idle hr hp hv)).trans hp
  case construct =>
    intro hp hv hop
    obtain ⟨u, hc, hphase⟩ := hcommand hp hv
    exact hphase.trans (commandCase_phase_of_construction hc hop)
  case genNone => exact fun hp hv hop hi hlen => by rw [hgen hp hv hop, if_pos hi, if_pos hlen]
  case genSome =>
    intro hp hv hop hi hlen
    have hlen : cmdA s.pins.cmd ≠ 0#32 := fun h0 => by simp [h0] at hlen
    rw [hgen hp hv hop, if_pos hi, if_neg hlen]
  case genFault => exact fun hp hv hop hi => by simp [hgen hp hv hop, hi]
  case reserved =>
    intro hp hv hop
    obtain ⟨u, hc, hphase⟩ := hcommand hp hv
    exact hphase.trans (commandCase_phase_of_reserved hc hop)
  case draw1 => exact fun hp => phase_of_step h (step_draw1 hr hp)
  case accept => exact fun hp hb => phase_of_step h (step_accept hr hp hb)
  case within => exact fun hp hb hlim => (phase_of_step h (step_discard hr hp hb)).trans (if_neg (not_lt.mpr hlim))
  case beyond => exact fun hp hb hlim => (phase_of_step h (step_discard hr hp hb)).trans (if_pos hlim)
  case valve => exact fun hp => phase_of_step h (step_valve hr hp)
  case wait => exact fun hp hk => (phase_of_step h (step_emit_wait hr hp hk)).trans hp
  case last => exact fun hp hk hrem => (phase_of_step h (step_transfer hr hp hk)).trans (if_pos hrem)
  case more =>
    intro hp hk hrem
    have hmore : s.rem ≠ 1#32 := fun h1 => by simp [h1] at hrem
    exact (phase_of_step h (step_transfer hr hp hk)).trans (if_neg hmore)
  case halt => exact fun hp => (phase_of_step h (step_stuck hr (.inl hp))).trans hp

/-! ### Where a tick changes nothing -/

/-- A run of ticks each of which changes no register only spends the host's inputs. -/
theorem ticks_unchanged {Q : TickIn → Prop}
    (hstep : ∀ inputs, Q ({ s with inputs := inputs } : State).pins →
      step { s with inputs := inputs } = .next (tickPassed { s with inputs := inputs }))
    (hpins : ∀ k, k < n → Q (pinsAt s k)) : ticks n s = .next { s with inputs := s.inputs.drop n } := by
  induction n generalizing s with
  | zero => rfl
  | succ n ih =>
    have hs : step s = .next (tickPassed s) := hstep s.inputs (pinsAt_zero s ▸ hpins 0 n.succ_pos)
    have hrest := ih (s := tickPassed s) hstep fun k hk =>
      pinsAt_tickPassed s k ▸ hpins (k + 1) (Nat.succ_lt_succ hk)
    rw [ticks_succ hs, hrest, tickPassed_inputs, List.drop_tail]
    rfl

theorem status_fault (s : State) : (status s).getLsbD 3 = s.phase.faulted := by
  simp only [status, BitVec.getLsbD_append]
  simp

/-- Settles O24: every tick of a halted block without a reset leaves its registers. -/
theorem haltHoldsUntilReset : Obligations.HaltHoldsUntilReset := by
  refine ⟨fun s => ⟨rfl, rfl, rfl⟩, fun n s hp hr => ?_, fun s t hp hstep hleft => ?_, fun s hp => ?_⟩
  · have hstuck : s.phase.stuck := hp
    exact ticks_unchanged (Q := fun i => i.rst = false) (fun _ hr => step_stuck hr hstuck) hr
  · by_contra hr
    exact hleft ((phase_of_step hstep (step_stuck (Bool.eq_false_of_not_eq_true hr) (.inl hp))).trans hp)
  · rw [status_busy, status_fault]
    simp [cmdReady, ksValid, ksLast, hp, Phase.busy, Phase.faulted]

theorem exec_phaseIdle_of_command (hv : s.pins.cmdValid = true) :
    exec .phaseIdle s = exec (decodeCmd s.pins.cmd) s := by
  rw [exec_decodeCmd]
  exact if_pos hv

/-- Settles O31: an offered command's meaning is the same run by `IDLE` and run by the tick. -/
theorem idleWaitsOrExecutes : Obligations.IdleWaitsOrExecutes := by
  refine ⟨fun s hv => ?_, fun s hv => ?_, fun s hp hr hv => step_idle hr hp hv, fun s hp => ?_⟩
  · exact if_neg (by simp [hv])
  · obtain ⟨t, ht⟩ := exists_exec_eq_next (decodeCmd s.pins.cmd) s
    exact ⟨t, (exec_phaseIdle_of_command hv).trans ht, ht, fun hp hr =>
      step_of_exec (by rw [selected_of_command hr hp hv, ht])⟩
  · rw [status_busy]
    simp [cmdReady, ksValid, ksLast, hp, Phase.busy]

theorem exec_emit_of_not_ready (hk : s.pins.ksReady = false) : exec .emit s = .next s := if_neg (by simp [hk])

theorem exec_emit_of_ready (hk : s.pins.ksReady = true) : exec .emit s = .next (transferBit s) := if_pos hk

/-- Settles O29: every tick of `EMIT` without a ready host leaves the registers. -/
theorem emitWaitsForTheHost : Obligations.EmitWaitsForTheHost := by
  refine ⟨fun s => exec_emit_of_not_ready, fun s hp => ?_, fun n s hp hpins => ?_⟩
  · simp [ksValid, ksBit, ksLast, hp]
  · exact ticks_unchanged (Q := fun i => i.rst = false ∧ i.ksReady = false)
      (fun _ hq => step_emit_wait hq.1 hp hq.2) hpins

/-- Settles O30: the effect is `transferBit`'s; with at least one bit owed the decrement does not wrap. -/
theorem emitTransfersTheBit : Obligations.EmitTransfersTheBit := by
  intro s hk
  refine ⟨_, exec_emit_of_ready hk, rfl, fun hrem => ?_, fun hrem => ?_, rfl, rfl, rfl, rfl, transferBit_keeps s,
    fun hp hr => step_transfer hr hp hk⟩
  · simp [hrem]
  · have hmore : s.rem ≠ 1#32 := fun h1 => by simp [h1] at hrem
    exact ⟨by rw [transferBit_rem]; bv_omega, if_neg hmore⟩

theorem faultTaken_raise (f : Fault) (s : State) : FaultTaken s (raise f s) f.cause f.op := by
  simp [FaultTaken, SameSurroundings]

/-- Settles O25: the effect is `reload`'s or that of the fault's entry. -/
theorem genReloadsAndStarts : Obligations.GenReloadsAndStarts := fun s len _ =>
  ⟨fun hi => ⟨_, if_pos hi, rfl, rfl, rfl, rfl, rfl, rfl, reload_keeps len s, rfl⟩,
    fun hi => ⟨_, if_neg (by simp [hi]), faultTaken_raise .genBeforeInit s⟩⟩

end Sys2Proof.Proofs.Sequencer

/-! SUPPORT and PROOFS. The keystream request (R153 to R167): the first bits of `generate`, the delivery of a
request to an always-ready host, the hang, and what a request depends on. -/

namespace Sys2Proof.Proofs.Keystream

open Sys2Proof Sys2Proof.Machine Sys2Proof.Claims Sys2Proof.Proofs.Registers Sys2Proof.Proofs.Channels
  Sys2Proof.Proofs.Encoding Sys2Proof.Proofs.Debiaser

variable {s s' t t' u : State} {m n : Nat}

/-! ### Bits delivered and bits owed -/

theorem toNat_sub_one {w : Word} (h : w ≠ 0#32) : (w - 1#32).toNat + 1 = w.toNat := by bv_omega

/-- Settles O49: of the ticks of a generating phase only the transfer writes `rem` or `sent`. -/
theorem deliveredPlusOwedIsConserved : Obligations.DeliveredPlusOwedIsConserved := by
  intro s t hinv hbusy hr hstep
  obtain ⟨hrem, -⟩ := hinv.busyOwes hbusy
  cases step_next hstep with
  | reset hr' => simp [hr] at hr'
  | idle _ hp _ | command _ hp _ _ => simp [hp, Phase.busy] at hbusy
  | draw1 _ _ | accept _ _ _ | discard _ _ _ | valve _ _ | wait _ _ _ => rfl
  | transfer _ _ _ =>
    have hleft := toNat_sub_one hrem
    simp only [tickPassed_sent, tickPassed_rem, transferBit_sent, transferBit_rem, List.length_append,
      List.length_singleton]
    omega
  | stuck _ hp => obtain hp | hp | hp := hp <;> simp [hp, Phase.busy] at hbusy

/-! ### A shorter request gives the first bits of a longer one -/

section
variable {p : Params} {mask w : Word} {fuel : Nat} {k : Keystream}

/-- A request for one bit more is one extraction, then the request for the rest. -/
theorem generate_succ_eq_some : generate p mask fuel (n + 1) w = some k ↔
    ∃ r k', nextBalancedBit p mask fuel w = some r ∧ generate p mask fuel n r.state = some k' ∧ k = .after r k' := by
  rw [generate]
  cases nextBalancedBit p mask fuel w with
  | none => simp
  | some r => simp [eq_comm]

theorem generate_take (h : generate p mask fuel n w = some k) (hle : m ≤ n) :
    ∃ k', generate p mask fuel m w = some k' ∧ k'.bits = k.bits.take m := by
  induction m generalizing n w k with
  | zero => exact ⟨_, rfl, rfl⟩
  | succ m ih =>
    obtain ⟨n, rfl⟩ := Nat.exists_eq_add_of_le' (Nat.one_le_of_lt hle)
    obtain ⟨r, krest, hr, hrest, rfl⟩ := generate_succ_eq_some.mp h
    obtain ⟨k', hk', hbits⟩ := ih hrest (Nat.le_of_succ_le_succ hle)
    exact ⟨.after r k', generate_succ_eq_some.mpr ⟨r, k', hr, hk', rfl⟩, congrArg (r.bit :: ·) hbits⟩

end

/-- Settles O53: the two requests extract the same bits as far as the shorter goes. -/
theorem shorterRequestsArePrefixes : Obligations.ShorterRequestsArePrefixes :=
  fun _ _ _ _ _ _ _ h hle => ⟨generate_length h, generate_take h hle⟩

/-! ### Runs that deliver bits -/

/-- `n` ticks lead from `s` to `t` and hand the host the bits listed; they write neither the key nor the flags. -/
structure Delivers (n : Nat) (bits : List Bool) (s t : State) : Prop where
  run : ticks n s = .next t
  sent : t.sent = s.sent ++ bits
  rem : t.rem.toNat + bits.length = s.rem.toNat
  inputs : t.inputs = s.inputs.drop n
  cfg : t.cfg = s.cfg
  seed : t.seed = s.seed
  mask : t.mask = s.mask
  inited : t.inited = s.inited
  seedSubst : t.seedSubst = s.seedSubst
  fcause : t.fcause = s.fcause
  fop : t.fop = s.fop

theorem Delivers.trans {bits bits' : List Bool} (h : Delivers m bits s t) (h' : Delivers n bits' t u) :
    Delivers (m + n) (bits ++ bits') s u where
  run := (ticks_add h.run).trans h'.run
  sent := by rw [h'.sent, h.sent, List.append_assoc]
  rem := by rw [← h.rem, ← h'.rem, List.length_append]; omega
  inputs := by rw [h'.inputs, h.inputs, List.drop_drop]
  cfg := h'.cfg.trans h.cfg
  seed := h'.seed.trans h.seed
  mask := h'.mask.trans h.mask
  inited := h'.inited.trans h.inited
  seedSubst := h'.seedSubst.trans h.seedSubst
  fcause := h'.fcause.trans h.fcause
  fop := h'.fop.trans h.fop

/-- Ticks of `DRAW1`, `DRAW2`, `VALVE` deliver nothing. -/
theorem delivers_of_keptFor (hrun : ticks n s = .next t) (h : KeptFor n s t) : Delivers n [] s t :=
  ⟨hrun, h.sent.trans (List.append_nil _).symm, congrArg BitVec.toNat h.rem, h.inputs, h.cfg, h.seed, h.mask,
    h.inited, h.seedSubst, h.fcause, h.fop⟩

/-- The tick of a bit transfer delivers the bit on offer (R157). -/
theorem delivers_transferBit (hb : bitTransfer s = true) (hrem : s.rem ≠ 0#32) :
    Delivers 1 [s.out] s (tickPassed (transferBit s)) :=
  ⟨ticks_one (step_of_bitTransfer hb), rfl, toNat_sub_one hrem, List.drop_one.symm, rfl, rfl, rfl, rfl, rfl, rfl, rfl⟩

/-! ### An always-ready host -/

/-- The host does not reset, and is ready for a bit, in the next `n` ticks. -/
def ReadyFor (n : Nat) (s : State) : Prop := ∀ k, k < n → (pinsAt s k).rst = false ∧ (pinsAt s k).ksReady = true

theorem ReadyFor.mono (h : ReadyFor n s) (hle : m ≤ n) : ReadyFor m s := fun k hk => h k (hk.trans_le hle)

theorem ReadyFor.noReset (h : ReadyFor n s) : NoReset n s := fun k hk => (h k hk).1

theorem ReadyFor.pins (h : ReadyFor (n + 1) s) : s.pins.rst = false ∧ s.pins.ksReady = true :=
  pinsAt_zero s ▸ h 0 n.succ_pos

theorem pinsAt_of_inputs_eq_drop (h : t.inputs = s.inputs.drop m) (k : Nat) : pinsAt t k = pinsAt s (m + k) := by
  simp [pinsAt, h, List.getD_eq_getElem?_getD]

/-- What is left of a ready host after `m` ticks. -/
theorem Delivers.readyFor {bits : List Bool} (hd : Delivers m bits s t) (h : ReadyFor (m + n) s) :
    ReadyFor n t := fun k hk =>
  pinsAt_of_inputs_eq_drop hd.inputs k ▸ h (m + k) (Nat.add_lt_add_left hk m)

/-- The claims count the ticks from the one of the `GEN`. -/
theorem readyFor_of_readyHost (h : ReadyHost s n) (hstep : step s = .next t) : ReadyFor n t := fun k hk =>
  pinsAt_step hstep k ▸ h (k + 1) k.succ_pos hk

/-! ### The delivery of a request to an always-ready host -/

/-- Between two bits of a request (after its `GEN`, and after each transfer) the block is in `DRAW1`, or in `IDLE` when
nothing is owed, and the discard counter is 0. -/
def BetweenBits (s : State) : Prop := s.phase = (if s.rem = 0#32 then .idle else .draw1) ∧ s.cnt = 0

theorem BetweenBits.draw1 (h : BetweenBits s) (hrem : s.rem ≠ 0#32) : s.phase = .draw1 := h.1.trans (if_neg hrem)

theorem betweenBits_reload (len : Word) (s : State) : BetweenBits (tickPassed (reload len s)) := ⟨rfl, rfl⟩

theorem betweenBits_transferBit (hcnt : s.cnt = 0) : BetweenBits (tickPassed (transferBit s)) := by
  have hlast : s.rem - 1#32 = 0#32 ↔ s.rem = 1#32 := sub_eq_zero
  exact ⟨by simp [hlast], hcnt⟩

/-- One extraction and the transfer of its bit take `2k + v + 1` ticks (R144, R157). -/
theorem delivers_bit {fuel : Nat} {r : BitResult} (hs : BetweenBits s) (hrem : s.rem ≠ 0#32)
    (h : nextBalancedBit s.cfg s.mask fuel s.state = some r) (hready : ReadyFor (2 * r.pairs + r.firings + 1) s) :
    ∃ t, Delivers (2 * r.pairs + r.firings + 1) [r.bit] s t ∧ BetweenBits t ∧ t.state = r.state := by
  obtain ⟨e, hrun, hep, hes, heo, hec, hkept⟩ := emitsAfter_of_nbbLoop (hs.draw1 hrem) (by rw [hs.2]; exact h)
    (hready.mono (Nat.le_succ _)).noReset
  have hsearch := delivers_of_keptFor hrun hkept
  obtain ⟨hr, hk⟩ := (hsearch.readyFor hready).pins
  have htransfer := delivers_transferBit (bitTransfer_eq_true.mpr ⟨hr, hep, hk⟩) (hkept.rem ▸ hrem)
  rw [heo] at htransfer
  exact ⟨_, hsearch.trans htransfer, betweenBits_transferBit hec, hes⟩

/-- The ticks of the first bit come before those of the rest. -/
theorem length_after (r : BitResult) (k : Keystream) (m : Nat) :
    2 * (Keystream.after r k).pairs + (Keystream.after r k).firings + (m + 1)
      = (2 * r.pairs + r.firings + 1) + (2 * k.pairs + k.firings + m) := by
  simp only [Keystream.after]
  omega

/-- The first `m` bits of a request take `2k + v + m` ticks (R161). -/
theorem delivers_generate {fuel : Nat} {k : Keystream} (hs : BetweenBits s) (hle : m ≤ s.rem.toNat)
    (h : generate s.cfg s.mask fuel m s.state = some k) (hready : ReadyFor (2 * k.pairs + k.firings + m) s) :
    ∃ t, Delivers (2 * k.pairs + k.firings + m) k.bits s t ∧ BetweenBits t ∧ t.state = k.state := by
  induction m generalizing s k with
  | zero =>
    obtain rfl := Option.some.inj h
    exact ⟨s, delivers_of_keptFor rfl (.refl s), hs, rfl⟩
  | succ m ih =>
    obtain ⟨r, k, hr, hk, rfl⟩ := generate_succ_eq_some.mp h
    rw [length_after] at hready ⊢
    have hrem : s.rem ≠ 0#32 := fun h0 => by simp [h0] at hle
    obtain ⟨t, hd, ht, hstate⟩ := delivers_bit hs hrem hr (hready.mono (Nat.le_add_right _ _))
    have hleft : t.rem.toNat + 1 = s.rem.toNat := hd.rem
    rw [← hstate, ← hd.cfg, ← hd.mask] at hk
    obtain ⟨u, hd', hu, hstate'⟩ := ih ht (by omega) hk (hd.readyFor hready)
    exact ⟨u, hd.trans hd', hu, hstate'⟩

/-- Settles O54: the tick of the `GEN`, and the delivery of as many bits as are owed. -/
theorem requestDeliversTheGeneratedKeystream : Obligations.RequestDeliversTheGeneratedKeystream := by
  intro s n fuel k hg hk hready
  have hgen := step_of_genTransferred hg
  obtain ⟨t, hd, ht, hstate⟩ :=
    delivers_generate (betweenBits_reload n s) le_rfl hk (readyFor_of_readyHost hready hgen)
  have hrem : t.rem = 0#32 := by
    have howed : t.rem.toNat + k.bits.length = n.toNat := hd.rem
    rw [generate_length hk] at howed
    bv_omega
  refine ⟨t, ?_, hd.sent, ht.1.trans (if_pos hrem), hstate, hrem, ht.2, hd.seed, hd.mask, hd.inited, hd.seedSubst,
    hd.fcause, hd.fop, hd.cfg⟩
  rw [show 1 + 2 * k.pairs + k.firings + n.toNat = 2 * k.pairs + k.firings + n.toNat + 1 by omega, ticks_succ hgen]
  exact hd.run

/-! ### The hang -/

theorem sent_of_unending_step (h : Unending s) (hstep : step s = .next t) : t.sent = s.sent := by
  have hhanded := bitsAreHandedOverOnceAndKept s t hstep
  rw [bitTransfer_of_not_emit (ne_emit_of_searching h.searching)] at hhanded
  simpa using hhanded

/-- An extraction that never ends hands over nothing, for any number of ticks. -/
theorem sent_of_unending (h : Unending s) (hr : NoReset n s) (hrun : ticks n s = .next t) : t.sent = s.sent :=
  (ticks_keep (P := fun u => Unending u ∧ u.sent = s.sent) (Q := fun i => i.rst = false)
    (fun ⟨hu, hsent⟩ hr hstep => ⟨hu.step hr hstep, (sent_of_unending_step hu hstep).trans hsent⟩)
    ⟨h, rfl⟩ hr hrun).2

/-- Settles O56: the delivery of the defined bits, and then an extraction that never ends. -/
theorem requestStallsAtAnUndefinedExtraction : Obligations.RequestStallsAtAnUndefinedExtraction := by
  intro s n fuel j N k hg hj hk hundef hN hready
  have hgen := step_of_genTransferred hg
  obtain ⟨M, rfl⟩ : ∃ M, N = 2 * k.pairs + k.firings + j + M + 1 :=
    ⟨N - (1 + 2 * k.pairs + k.firings + j), by omega⟩
  have hready := (readyFor_of_readyHost hready hgen).mono (Nat.le_succ _)
  obtain ⟨u, hd, hu, hstate⟩ := delivers_generate (betweenBits_reload n s) hj.le hk
    (hready.mono (Nat.le_add_right _ _))
  have hrem : u.rem ≠ 0#32 := fun h0 => by
    have howed : u.rem.toNat + k.bits.length = n.toNat := hd.rem
    rw [generate_length hk, h0] at howed
    simp at howed
    omega
  have hunending : Unending u := .draw1 (hu.draw1 hrem) (by rw [hstate, hu.2, hd.cfg, hd.mask]; exact hundef)
  obtain ⟨t, hrun⟩ := exists_ticks_eq_next M u
  have hr := (hd.readyFor hready).noReset
  exact ⟨t, (ticks_succ hgen).trans ((ticks_add hd.run).trans hrun), (sent_of_unending hunending hr hrun).trans hd.sent,
    generate_length hk, (hunending.ticks hr hrun).searching⟩

/-- Settles O60: a defined extraction reaches `EMIT`, for a host that asserts nothing; an undefined one never ends. -/
theorem hungExactlyWhereTheExtractionIsUndefined : Obligations.HungExactlyWhereTheExtractionIsUndefined := by
  intro s hp hc
  constructor
  · intro hhung fuel
    by_contra hdefined
    obtain ⟨r, hr⟩ := Option.ne_none_iff_exists'.mp hdefined
    have hquiet : ∀ n, NoReset n { s with inputs := [] } := fun _ _ _ => rfl
    obtain ⟨t, hrun, htp, -⟩ :=
      emitsAfter_of_nbbLoop (s := { s with inputs := [] }) hp (by rw [hc]; exact hr) (hquiet _)
    exact ne_emit_of_searching (hhung [] _ t (hquiet _) hrun) htp
  · intro hundef inputs n t hr hrun
    have hunending : Unending { s with inputs := inputs } := .draw1 hp (hc ▸ hundef)
    exact (hunending.ticks hr hrun).searching

/-! ### What a request depends on -/

/-- Two instances that differ only in what no later bit depends on: the flags, the bits already taken, the latched bit
outside `DRAW2` and the offered bit outside `EMIT`. -/
structure Alike (s s' : State) : Prop where
  cfg : s.cfg = s'.cfg
  state : s.state = s'.state
  seed : s.seed = s'.seed
  mask : s.mask = s'.mask
  cnt : s.cnt = s'.cnt
  rem : s.rem = s'.rem
  phase : s.phase = s'.phase
  inited : s.inited = s'.inited
  inputs : s.inputs = s'.inputs
  b1 : s.phase = .draw2 → s.b1 = s'.b1
  out : s.phase = .emit → s.out = s'.out

theorem Alike.pins (h : Alike s s') : s.pins = s'.pins := by rw [State.pins, State.pins, h.inputs]

theorem Alike.stepperStep_eq (h : Alike s s') :
    stepperStep s.cfg s.state s.mask = stepperStep s'.cfg s'.state s'.mask := by rw [h.cfg, h.state, h.mask]

/-! Each operation on the registers keeps two such instances alike, with what the phase it runs in knows. -/

theorem alike_tickPassed (h : Alike s s') : Alike (tickPassed s) (tickPassed s') :=
  { h with inputs := congrArg List.tail h.inputs }

theorem alike_resetRegs (h : Alike s s') : Alike (resetRegs s) (resetRegs s') :=
  { h with
    state := congrArg Params.seedFallback h.cfg, seed := congrArg Params.seedFallback h.cfg
    mask := congrArg Params.maskDefault h.cfg, cnt := rfl, rem := rfl, phase := rfl, inited := rfl
    b1 := nofun, out := nofun }

theorem alike_raise (h : Alike s s') (f : Fault) : Alike (raise f s) (raise f s') :=
  { h with phase := rfl, b1 := nofun, out := nofun }

theorem alike_construct {mask mask' : Word} (h : Alike s s') (cand : Word) (hmask : mask = mask') :
    Alike (construct cand mask s) (construct cand mask' s') :=
  have hseed : normSeed s.cfg cand = normSeed s'.cfg cand := by rw [h.cfg]
  { h with state := hseed, seed := hseed, mask := hmask, phase := rfl, inited := rfl, b1 := nofun, out := nofun }

theorem alike_reload (h : Alike s s') (len : Word) : Alike (reload len s) (reload len s') :=
  { h with
    state := h.seed, cnt := rfl, rem := rfl, phase := rfl
    b1 := by rw [reload_phase]; split_ifs <;> nofun
    out := by rw [reload_phase]; split_ifs <;> nofun }

theorem alike_latchFirst (h : Alike s s') (g : Word) (raw : Bool) :
    Alike (latchFirst g raw s) (latchFirst g raw s') :=
  { h with state := rfl, phase := rfl, b1 := fun _ => rfl, out := nofun }

theorem alike_acceptPair (h : Alike s s') (hp : s.phase = .draw2) (g : Word) :
    Alike (acceptPair g s) (acceptPair g s') :=
  { h with state := rfl, cnt := rfl, phase := rfl, b1 := nofun, out := fun _ => h.b1 hp }

theorem alike_discardPair (h : Alike s s') (g : Word) : Alike (discardPair g s) (discardPair g s') :=
  { h with
    state := rfl, cnt := congrArg (· + 1) h.cnt
    phase := by rw [discardPair_phase, discardPair_phase, h.cnt, h.cfg]
    b1 := by rw [discardPair_phase]; split_ifs <;> nofun
    out := by rw [discardPair_phase]; split_ifs <;> nofun }

theorem alike_fireValve (h : Alike s s') : Alike (fireValve s) (fireValve s') :=
  { h with
    state := by rw [fireValve_state, fireValve_state, h.state, h.cnt]
    cnt := rfl, phase := rfl, b1 := nofun, out := nofun }

theorem alike_transferBit (h : Alike s s') : Alike (transferBit s) (transferBit s') :=
  { h with
    rem := congrArg (· - 1#32) h.rem
    phase := by rw [transferBit_phase, transferBit_phase, h.rem]
    b1 := by rw [transferBit_phase]; split_ifs <;> nofun
    out := by rw [transferBit_phase]; split_ifs <;> nofun }

theorem alike_execGen {len : Word} (h : Alike s s') (hu : execGen len s = .next u) :
    ∃ u', execGen len s' = .next u' ∧ Alike u u' := by
  obtain ⟨hi, rfl⟩ | ⟨hi, rfl⟩ := execGen_next hu
  · exact ⟨_, if_pos (h.inited ▸ hi), alike_reload h len⟩
  · exact ⟨_, if_neg (by simp [← h.inited, hi]), alike_raise h _⟩

/-- The two execute the same command alike. -/
theorem alike_execCommand {w : CmdWord} (h : Alike s s') (hu : execCommand w s = .next u) :
    ∃ u', execCommand w s' = .next u' ∧ Alike u u' := by
  have hmask : maskDefault s.cfg = maskDefault s'.cfg := by rw [h.cfg]
  unfold execCommand at hu ⊢
  split_ifs at hu ⊢
  · exact Host.Outcome.next.inj hu ▸ ⟨_, rfl, alike_construct h _ rfl⟩
  · exact Host.Outcome.next.inj hu ▸ ⟨_, rfl, alike_construct h _ hmask⟩
  · exact Host.Outcome.next.inj hu ▸ ⟨_, rfl, alike_construct h _ rfl⟩
  · exact Host.Outcome.next.inj hu ▸ ⟨_, rfl, alike_construct h _ hmask⟩
  · exact alike_execGen h hu
  · exact Host.Outcome.next.inj hu ▸ ⟨_, rfl, alike_raise h _⟩

/-- The two make the same transition at a tick. -/
theorem Alike.exists_step (h : Alike s s') (hstep : step s = .next t) : ∃ t', step s' = .next t' ∧ Alike t t' := by
  have hpins := h.pins
  have hphase := h.phase
  have hdraw := h.stepperStep_eq
  cases step_next hstep with
  | reset hr => exact ⟨_, step_reset (hpins ▸ hr), alike_tickPassed (alike_resetRegs h)⟩
  | idle hr hp hv => exact ⟨_, step_idle (hpins ▸ hr) (hphase ▸ hp) (hpins ▸ hv), alike_tickPassed h⟩
  | command hr hp hv _ =>
    obtain ⟨u, hu⟩ := exists_execCommand_eq_next s.pins.cmd s
    obtain ⟨u', hu', halike⟩ := alike_execCommand h hu
    have htu := Host.Outcome.next.inj (hstep.symm.trans (step_command hr hp hv hu))
    exact ⟨_, step_command (hpins ▸ hr) (hphase ▸ hp) (hpins ▸ hv) (hpins ▸ hu'), htu ▸ alike_tickPassed halike⟩
  | draw1 hr hp =>
    rw [hdraw]
    exact ⟨_, step_draw1 (hpins ▸ hr) (hphase ▸ hp), alike_tickPassed (alike_latchFirst h _ _)⟩
  | accept hr hp hb =>
    rw [h.b1 hp, hdraw] at hb
    rw [hdraw]
    exact ⟨_, step_accept (hpins ▸ hr) (hphase ▸ hp) hb, alike_tickPassed (alike_acceptPair h hp _)⟩
  | discard hr hp hb =>
    rw [h.b1 hp, hdraw] at hb
    rw [hdraw]
    exact ⟨_, step_discard (hpins ▸ hr) (hphase ▸ hp) hb, alike_tickPassed (alike_discardPair h _)⟩
  | valve hr hp => exact ⟨_, step_valve (hpins ▸ hr) (hphase ▸ hp), alike_tickPassed (alike_fireValve h)⟩
  | wait hr hp hk => exact ⟨_, step_emit_wait (hpins ▸ hr) (hphase ▸ hp) (hpins ▸ hk), alike_tickPassed h⟩
  | transfer hr hp hk =>
    exact ⟨_, step_transfer (hpins ▸ hr) (hphase ▸ hp) (hpins ▸ hk), alike_tickPassed (alike_transferBit h)⟩
  | stuck hr hp => exact ⟨_, step_stuck (hpins ▸ hr) (hphase ▸ hp), alike_tickPassed h⟩

/-- The two hand over the same bit, or none, at a tick. -/
theorem Alike.handed_eq (h : Alike s s') :
    (if bitTransfer s = true then [ksBit s] else []) = if bitTransfer s' = true then [ksBit s'] else [] := by
  have hb : bitTransfer s = bitTransfer s' := by rw [bitTransfer, bitTransfer, ksValid, ksValid, h.pins, h.phase]
  rw [← hb]
  split_ifs with htransfer
  · obtain ⟨-, hp, -⟩ := bitTransfer_eq_true.mp htransfer
    rw [ksBit, ksBit, h.out hp]
  · rfl

/-- The two deliver the same bits in any number of ticks. -/
theorem Alike.ticks (h : Alike s s') (hrun : ticks n s = .next t) (hrun' : ticks n s' = .next t') :
    Alike t t' ∧ ∃ bits, t.sent = s.sent ++ bits ∧ t'.sent = s'.sent ++ bits := by
  induction n generalizing s s' with
  | zero =>
    obtain rfl := Host.Outcome.next.inj hrun
    obtain rfl := Host.Outcome.next.inj hrun'
    exact ⟨h, [], by simp, by simp⟩
  | succ n ih =>
    obtain ⟨u, hu⟩ := everyTickHasASuccessor.2 s
    obtain ⟨u', hu', halike⟩ := h.exists_step hu
    rw [ticks_succ hu] at hrun
    rw [ticks_succ hu'] at hrun'
    obtain ⟨ht, bits, hsent, hsent'⟩ := ih halike hrun hrun'
    rw [bitsAreHandedOverOnceAndKept s u hu, List.append_assoc] at hsent
    rw [bitsAreHandedOverOnceAndKept s' u' hu', ← h.handed_eq, List.append_assoc] at hsent'
    exact ⟨ht, _, hsent, hsent'⟩

/-- After a `GEN` only the flags, `b1`, `out` and the bits already taken remember what was before (R153). -/
theorem alike_genTransferred {len : Word} (hg : GenTransferred s len) (hg' : GenTransferred s' len)
    (hcfg : s.cfg = s'.cfg) (hseed : s.seed = s'.seed) (hmask : s.mask = s'.mask) (hinputs : s.inputs = s'.inputs) :
    Alike (tickPassed (reload len s)) (tickPassed (reload len s')) := by
  obtain ⟨-, -, -, hi⟩ := hg
  obtain ⟨-, -, -, hi'⟩ := hg'
  refine ⟨hcfg, hseed, hseed, hmask, rfl, rfl, rfl, hi.trans hi'.symm, congrArg List.tail hinputs, ?_, ?_⟩ <;>
    rw [tickPassed_phase, reload_phase] <;> split_ifs <;> nofun

/-- Settles O57: the tick of the `GEN` makes the two instances alike, and every tick after it keeps them so. -/
theorem sameSeedAndMaskSameBits : Obligations.SameSeedAndMaskSameBits := by
  intro s s' t t' len N hg hg' hcfg hseed hmask hinputs hrun hrun'
  rw [ticks_succ (step_of_genTransferred hg)] at hrun
  rw [ticks_succ (step_of_genTransferred hg')] at hrun'
  obtain ⟨h, hbits⟩ := (alike_genTransferred hg hg' hcfg hseed hmask hinputs).ticks hrun hrun'
  refine ⟨?_, ?_, ?_, fun hv => h.out (of_decide_eq_true hv), hbits⟩
  · rw [ksValid, ksValid, h.phase]
  · rw [ksLast, ksLast, h.phase, h.rem]
  · rw [cmdReady, cmdReady, h.phase]

end Sys2Proof.Proofs.Keystream

/-! SUPPORT and PROOFS. Construction (R180 to R189): the magnitude of a signed seed as an integer, what the four
`INIT*` commands leave in the registers, and the signed forms as the unsigned ones on the magnitude. -/

namespace Sys2Proof.Proofs.Construct

open Sys2Proof Sys2Proof.Machine Sys2Proof.Claims

variable {a c : Word}

/-! ### The magnitude -/

theorem abs32_eq_abs (a : Word) : abs32 a = a.abs := by
  rw [abs32, BitVec.abs_eq, BitVec.msb_eq_getLsbD_last, BitVec.zero_sub]

/-- As an integer the magnitude is exact: 2^31, of -2^31, still fits a word read without sign (R182). -/
theorem abs32_toNat (a : Word) : (abs32 a).toNat = a.toInt.natAbs := by
  rw [abs32_eq_abs, BitVec.toNat_abs, BitVec.toInt_eq_msb_cond]
  have hlt := a.isLt
  split <;> omega

theorem abs32_eq_zero_iff : abs32 a = 0#32 ↔ a = 0#32 := by
  rw [← BitVec.toNat_inj, abs32_toNat, BitVec.toNat_zero, Int.natAbs_eq_zero, ← BitVec.toInt_inj, BitVec.toInt_zero]

theorem abs32_of_nonneg (h : a.toNat ≤ 0x7FFFFFFF) : abs32 a = a := by
  apply BitVec.eq_of_toNat_eq
  rw [abs32_toNat, BitVec.toInt_eq_toNat_of_lt (by omega), Int.natAbs_natCast]

/-- Settles O15: the magnitude is the absolute value, which is zero of zero only. -/
theorem seedCandidateIsTheMagnitude : Obligations.SeedCandidateIsTheMagnitude :=
  ⟨fun _ => rfl, abs32_toNat, by decide, by decide, fun _ => abs32_eq_zero_iff⟩

/-! ### The registers after a construction -/

theorem constructed_construct (cand mask : Word) (s : State) :
    Constructed s (construct cand mask s) (normSeed s.cfg cand) mask (substFlag cand) := by
  simp [Constructed, SameSurroundings]

/-- A signed seed is substituted exactly where the operand itself is zero (R183). -/
theorem substFlag_abs32 (a : Word) : substFlag (abs32 a) = decide (a = 0#32) :=
  decide_eq_decide.mpr abs32_eq_zero_iff

theorem normSeed_abs32_toNat (p : Params) (a : Word) :
    (normSeed p (abs32 a)).toNat = if a = 0#32 then p.seedFallback.toNat else a.toInt.natAbs := by
  split_ifs with ha
  · rw [abs32_eq_zero_iff.mpr ha, normSeed_of_zero]
  · rw [normSeed_of_ne (mt abs32_eq_zero_iff.mp ha), abs32_toNat]

/-- Both signed forms leave this, each with its own mask (R188, R189). -/
theorem constructed_construct_abs32 (a mask : Word) (s : State) :
    Constructed s (construct (abs32 a) mask s) (normSeed s.cfg (abs32 a)) mask (decide (a = 0#32)) :=
  substFlag_abs32 a ▸ constructed_construct (abs32 a) mask s

/-- Settles O16: the effect is `construct`'s, on the operand and the given mask. -/
theorem initBuildsTheInstance : Obligations.InitBuildsTheInstance :=
  ⟨fun _ _ => rfl, fun s a b => ⟨_, rfl, constructed_construct a b s⟩, rfl, by decide⟩

/-- Settles O17: the effect is `construct`'s, on the operand and the default mask. -/
theorem initdBuildsTheInstanceWithTheDefaultMask : Obligations.InitdBuildsTheInstanceWithTheDefaultMask :=
  ⟨fun _ _ => rfl, fun s a _ => ⟨_, rfl, constructed_construct a s.cfg.maskDefault s⟩, rfl, by decide⟩

/-! ### The signed forms are the unsigned forms on the magnitude -/

theorem exec_inits_of_abs32 (h : abs32 a = c) (b : Word) (s : State) : exec (.inits a b) s = exec (.init c b) s :=
  h ▸ rfl

theorem exec_initsd_of_abs32 (h : abs32 a = c) (b : Word) (s : State) : exec (.initsd a b) s = exec (.initd c b) s :=
  h ▸ rfl

/-- Settles O18: the effect is that of `INIT` on the magnitude, which below 2^31 is the operand. -/
theorem initsTakesTheMagnitude : Obligations.InitsTakesTheMagnitude :=
  ⟨fun _ _ => rfl,
    fun s a b => ⟨_, _, rfl, normSeed_abs32_toNat s.cfg a, constructed_construct_abs32 a b s⟩,
    fun s _ b h => exec_inits_of_abs32 (abs32_of_nonneg h) b s,
    fun s b => ⟨exec_inits_of_abs32 (by decide) b s, exec_inits_of_abs32 (by decide) b s,
      exec_inits_of_abs32 (by decide) b s⟩,
    by decide⟩

/-- Settles O19: the effect is that of `INITD` on the magnitude, which below 2^31 is the operand. -/
theorem initsdTakesTheMagnitudeAndTheDefaultMask : Obligations.InitsdTakesTheMagnitudeAndTheDefaultMask :=
  ⟨fun _ _ => rfl,
    fun s a _ => ⟨_, _, rfl, normSeed_abs32_toNat s.cfg a, constructed_construct_abs32 a s.cfg.maskDefault s⟩,
    fun s _ b h => exec_initsd_of_abs32 (abs32_of_nonneg h) b s,
    fun s b => ⟨exec_initsd_of_abs32 (by decide) b s, exec_initsd_of_abs32 (by decide) b s⟩,
    by decide⟩

end Sys2Proof.Proofs.Construct

/-! SUPPORT and PROOFS. The faults (R200 to R204): what a fault's entry leaves in the registers and on the ports, which
instructions enter one, and that no other tick writes `fcause` or `fop`. -/

namespace Sys2Proof.Proofs.Exceptions

open Sys2Proof Sys2Proof.Machine Sys2Proof.Claims Sys2Proof.Proofs.Registers Sys2Proof.Proofs.Channels
  Sys2Proof.Proofs.Sequencer

variable {s t : State}

/-! ### Fault entry -/

/-- The fields `FCAUSE` and `FOP` of the status word (R32), read off the weights of all its fields. -/
theorem status_fault_fields (s : State) :
    (status s).extractLsb' 4 2 = s.fcause ∧ (status s).extractLsb' 8 4 = s.fop := by
  have hbusy := s.phase.busy.toNat_lt
  have hinit := s.inited.toNat_lt
  have hsubst := s.seedSubst.toNat_lt
  have hfault := s.phase.faulted.toNat_lt
  have hcause := s.fcause.isLt
  have hop := s.fop.isLt
  constructor <;> apply BitVec.eq_of_toNat_eq <;>
    simp only [BitVec.extractLsb'_toNat, Nat.shiftRight_eq_div_pow, status_toNat] <;> omega

/-- Settles O20: the registers are those of `raise`, and the ports show them. -/
theorem faultEntryRecordsAndHalts : Obligations.FaultEntryRecordsAndHalts := fun f s =>
  have ⟨hcause, hop⟩ := status_fault_fields (raise f s)
  ⟨faultTaken_raise f s, status_fault (raise f s), hcause, hop, status_busy (raise f s), rfl⟩

/-! ### The instructions that fault -/

theorem faults_of_takeReserved {i : Instr} {op : Opcode} (h : exec i s = takeReserved op s) :
    ∃ t, exec i s = .next t ∧ FaultTaken s t 1#2 op :=
  ⟨_, h, faultTaken_raise (.reservedOp op) s⟩

/-- Settles O21: the meaning of each reserved instruction is `takeReserved` of its own opcode. -/
theorem reservedOpcodesFault : Obligations.ReservedOpcodesFault := fun _ _ _ =>
  ⟨faults_of_takeReserved rfl, faults_of_takeReserved rfl, faults_of_takeReserved rfl, faults_of_takeReserved rfl,
    faults_of_takeReserved rfl, faults_of_takeReserved rfl, faults_of_takeReserved rfl, faults_of_takeReserved rfl,
    faults_of_takeReserved rfl, faults_of_takeReserved rfl, faults_of_takeReserved rfl⟩

/-- Settles O22: it is the faulting clause of O25. -/
theorem genBeforeInitFaults : Obligations.GenBeforeInitFaults := fun s len b =>
  have ⟨_, hfault⟩ := genReloadsAndStarts s len b
  hfault

/-! ### The ticks that fault -/

theorem commandTransfer_eq_true :
    commandTransfer s = true ↔ s.pins.rst = false ∧ s.pins.cmdValid = true ∧ s.phase = .idle := by
  simp [commandTransfer, cmdReady, and_assoc]

theorem execCommand_of_reserved {w : CmdWord} (h : Reserved (cmdOp w)) (s : State) :
    execCommand w s = .next (raise (.reservedOp (cmdOp w)) s) := by
  obtain ⟨h4, h5, h6, h7, h8⟩ := h
  simp [execCommand, takeReserved, h4, h5, h6, h7, h8]

theorem execCommand_of_gen_before_init {w : CmdWord} (hop : cmdOp w = 8#4) (hi : s.inited = false) :
    execCommand w s = .next (raise .genBeforeInit s) := by
  simp [execCommand, execGen, hop, hi]

/-- The tick of a command transfer, from the meaning of the word transferred. -/
theorem step_of_commandTransfer (hc : commandTransfer s = true) (h : execCommand s.pins.cmd s = .next t) :
    step s = .next (tickPassed t) :=
  have ⟨hr, hv, hp⟩ := commandTransfer_eq_true.mp hc
  step_command hr hp hv h

/-- Settles O23: the two faulting transfers enter their faults, and no other case of a tick but the reset writes
`fcause` or `fop`. -/
theorem faultsComeOnlyFromTheTwoCases : Obligations.FaultsComeOnlyFromTheTwoCases := by
  intro s t hr hstep
  refine ⟨fun ⟨hc, hop⟩ => ?reserved, fun ⟨hc, hop, hi⟩ => ?gen, fun hreserved hgen => ?other⟩
  case reserved =>
    obtain rfl := Host.Outcome.next.inj
      ((step_of_commandTransfer hc (execCommand_of_reserved hop s)).symm.trans hstep)
    exact ⟨rfl, rfl⟩
  case gen =>
    obtain rfl := Host.Outcome.next.inj
      ((step_of_commandTransfer hc (execCommand_of_gen_before_init hop hi)).symm.trans hstep)
    exact ⟨rfl, rfl⟩
  case other =>
    cases step_next hstep with
    | reset hreset => simp [hr] at hreset
    | command _ hp hv hcase =>
      have hc := commandTransfer_of_offered hr hp hv
      cases hcase with
      | construct _ _ _ | gen _ _ => exact ⟨rfl, rfl⟩
      | genFault hop hi => exact absurd ⟨hc, hop, hi⟩ hgen
      | reserved hop => exact absurd ⟨hc, hop⟩ hreserved
    | _ => exact ⟨rfl, rfl⟩

end Sys2Proof.Proofs.Exceptions

/-! SUPPORT and PROOFS. Reset and hazards (R230 to R244): what a reset tick leaves, and configurations whose extraction
never ends, shown by the recurrence of the states in which its valve firings leave the block. -/

namespace Sys2Proof.Proofs.Hazards

open Sys2Proof Sys2Proof.Machine Sys2Proof.Claims Sys2Proof.Proofs.Debiaser
  Sys2Proof.Proofs.Keystream

/-! ### The reset tick -/

theorem status_resetRegs (s : State) : status (resetRegs s) = 0x0000#16 := by
  simp [status, Phase.faulted, Phase.busy]

/-- The literals of R230 are the reset values of an instance with the default parameters (log 4). -/
theorem resetRegs_of_standard {s : State} (h : s.cfg = Params.standard) :
    (resetRegs s).state = 0x00003039#32 ∧ (resetRegs s).seed = 0x00003039#32
      ∧ (resetRegs s).mask = 0xA5A5A5A5#32 := by
  rw [resetRegs_state, resetRegs_seed, resetRegs_mask, h]
  exact ⟨rfl, rfl, rfl⟩

/-- Settles O32: the registers and the ports are those of `resetRegs`, which a tick with `rst` = 1 runs. -/
theorem resetRestoresEveryRegister : Obligations.ResetRestoresEveryRegister := fun s =>
  ⟨resetRegs s, rfl, rfl, rfl, rfl, rfl, rfl, rfl, rfl, rfl, rfl, rfl, rfl, rfl, ⟨rfl, rfl, rfl⟩,
    resetRegs_of_standard, rfl, rfl, rfl, rfl, status_resetRegs s, step_reset⟩

/-- The state a reset tick leaves is a function of the parameters, the coming inputs and the bits taken. -/
theorem tickPassed_resetRegs_congr {s s' : State} (hcfg : s.cfg = s'.cfg)
    (hinputs : s.inputs.tail = s'.inputs.tail) (hsent : s.sent = s'.sent) :
    tickPassed (resetRegs s) = tickPassed (resetRegs s') := by
  simp only [tickPassed, resetRegs, hcfg, hinputs, hsent]

/-- Settles O46: both ticks are the reset transition. -/
theorem resetForgetsEverything : Obligations.ResetForgetsEverything := fun s s' i j hi hj hcfg hinputs hsent => by
  rw [step_reset (s := withPins i s) hi, step_reset (s := withPins j s') hj]
  exact congrArg _ (tickPassed_resetRegs_congr hcfg hinputs hsent)

/-! ### Extractions that never end -/

section
variable {p : Params} {mask w : Word} {n : Nat} {R : Word → Prop}

/-- The state in which the valve leaves the block when `DISCARD_LIMIT + 1` pairs from `w` have been discarded. -/
def afterFiring (p : Params) (mask w : Word) : Word :=
  add32 (trajectory p mask (2 * (p.discardLimit + 1)) w) (zext32 (p.discardLimit + 1))

/-- From every state of `R` all the pairs up to the firing are discards, and the firing leads back into `R`. -/
def ClosedUnderFiring (p : Params) (mask : Word) (R : Word → Prop) : Prop :=
  ∀ w, R w → AllDiscards p mask w (p.discardLimit + 1) ∧ R (afterFiring p mask w)

/-- No fuel suffices, from any count on the way to a firing. -/
theorem nbbLoop_eq_none_of_closed (hclosed : ClosedUnderFiring p mask R) (hw : R w) (hn : n ≤ p.discardLimit)
    (fuel : Nat) : nbbLoop p mask fuel (trajectory p mask (2 * n) w) n = none := by
  induction fuel generalizing w n with
  | zero => rfl
  | succ fuel ih =>
    obtain ⟨hdiscards, hfired⟩ := hclosed w hw
    have heq : rawBit p mask 0 (trajectory p mask (2 * n) w) = rawBit p mask 1 (trajectory p mask (2 * n) w) := by
      rw [← rawBit_add, ← rawBit_add]
      exact hdiscards n (Nat.lt_succ_of_le hn)
    have hpair : trajectory p mask 2 (trajectory p mask (2 * n) w) = trajectory p mask (2 * (n + 1)) w :=
      (trajectory_add p mask (2 * n) 2 w).symm
    by_cases hlim : n + 1 > p.discardLimit
    · obtain rfl : n = p.discardLimit := by omega
      rw [nbbLoop_of_equal_beyond heq hlim, hpair]
      exact Option.map_eq_none_iff.mpr (ih hfired (Nat.zero_le _))
    · rw [nbbLoop_of_equal_within heq hlim, hpair]
      exact Option.map_eq_none_iff.mpr (ih hw (Nat.le_of_not_gt hlim))

/-- R142: an extraction whose firings stay in such a set is undefined. -/
theorem undefined_of_closed (hclosed : ClosedUnderFiring p mask R) (hw : R w) : Undefined p mask w 0 :=
  nbbLoop_eq_none_of_closed hclosed hw (Nat.zero_le _)

/-- R167: where the extraction is undefined, no number of ticks reaches `EMIT` or hands over a bit. -/
theorem hang_of_undefined {s : State} (hp : s.phase = .draw1) (h : Undefined s.cfg s.mask s.state s.cnt)
    (hr : NoReset n s) : ∃ t, ticks n s = .next t ∧ t.phase ≠ .emit ∧ t.sent = s.sent := by
  have hunending : Unending s := .draw1 hp h
  obtain ⟨t, hrun⟩ := exists_ticks_eq_next n s
  exact ⟨t, hrun, ne_emit_of_searching (hunending.ticks hr hrun).searching, sent_of_unending hunending hr hrun⟩

end

/-! ### Runs of discarded pairs

A run is given by the states it passes through; each is checked to be one step from the one before it. -/

/-- The stepper leads from `v` to `w`, and the raw bit of the step is 0. -/
abbrev QuietStep (p : Params) (mask v w : Word) : Prop := stepperStep p v mask = (w, false)

/-- `n` steps lead from `v` to `w`, and all their raw bits are 0. -/
structure QuietRun (p : Params) (mask : Word) (n : Nat) (v w : Word) : Prop where
  reaches : trajectory p mask n v = w
  quiet : ∀ k, k < n → rawBit p mask k v = false

section
variable {p : Params} {mask u v w : Word} {m n : Nat}

theorem QuietRun.refl (p : Params) (mask w : Word) : QuietRun p mask 0 w w := ⟨rfl, fun _ hk => by omega⟩

theorem QuietStep.quietRun (h : QuietStep p mask v w) : QuietRun p mask 1 v w where
  reaches := congrArg Prod.fst h
  quiet k hk := by
    obtain rfl : k = 0 := by omega
    exact congrArg Prod.snd h

theorem QuietRun.trans (h : QuietRun p mask m u v) (h' : QuietRun p mask n v w) : QuietRun p mask (m + n) u w where
  reaches := by rw [trajectory_add, h.reaches, h'.reaches]
  quiet k hk := by
    obtain hm | hm := Nat.lt_or_ge k m
    · exact h.quiet k hm
    · obtain ⟨j, rfl⟩ := Nat.exists_eq_add_of_le hm
      rw [rawBit_add, h.reaches]
      exact h'.quiet j (by omega)

/-- A cycle may be gone round any number of times. -/
theorem QuietRun.iterate (h : QuietRun p mask n w w) (k : Nat) : QuietRun p mask (n * k) w w := by
  induction k with
  | zero => exact .refl p mask w
  | succ k ih => exact ih.trans h

theorem quietRun_of_isChain {ws : List Word} (h : (v :: ws).IsChain (QuietStep p mask)) :
    QuietRun p mask ws.length v (ws.getLastD v) := by
  induction ws generalizing v with
  | nil => exact .refl p mask v
  | cons u us ih =>
    obtain ⟨hstep, hrest⟩ := List.isChain_cons_cons.mp h
    rw [List.length_cons, Nat.add_comm, List.getLastD_cons]
    exact (QuietStep.quietRun hstep).trans (ih hrest)

/-- The pairs of a run up to the firing are discards, and the firing leads from its last state. -/
theorem QuietRun.firing (h : QuietRun p mask n v w) (hn : n = 2 * (p.discardLimit + 1))
    (hu : add32 w (zext32 (p.discardLimit + 1)) = u) :
    AllDiscards p mask v (p.discardLimit + 1) ∧ afterFiring p mask v = u := by
  subst hn
  refine ⟨fun k hk => ?_, by rw [afterFiring, h.reaches, hu]⟩
  rw [h.quiet (2 * k) (by omega), h.quiet (2 * k + 1) (by omega)]

end

/-! ### The limit 1 -/

/-- R244's parameters. -/
def limitOne : Params := { Params.standard with discardLimit := 1 }

/-- The two discarded pairs before each firing of R244's extraction: the state they begin in, and the four states they
pass through. The recurring state 0x2E is the first. -/
def limitOneRuns : List (Word × List Word) :=
  [(46, [23, 70, 35, 106]),
   (108, [54, 27, 82, 41]),
   (43, [130, 65, 196, 98]),
   (100, [50, 25, 76, 38]),
   (40, [20, 10, 5, 16]),
   (18, [9, 28, 14, 7]),
   (9, [28, 14, 7, 22]),
   (24, [12, 6, 3, 10]),
   (12, [6, 3, 10, 5]),
   (7, [22, 11, 34, 17]),
   (19, [58, 29, 88, 44])]

theorem limitOneRuns_quiet : ∀ r ∈ limitOneRuns, (r.1 :: r.2).IsChain (QuietStep limitOne 0xA5A5A5A5#32) := by
  decide

/-- Every firing leads to the beginning of a run. -/
theorem limitOneRuns_closed : ∀ r ∈ limitOneRuns,
    r.2.length = 4 ∧ add32 (r.2.getLastD r.1) (zext32 2) ∈ limitOneRuns.map Prod.fst := by
  decide

theorem limitOne_closedUnderFiring :
    ClosedUnderFiring limitOne 0xA5A5A5A5#32 (· ∈ limitOneRuns.map Prod.fst) := by
  intro w hw
  obtain ⟨r, hr, rfl⟩ := List.mem_map.mp hw
  obtain ⟨hlength, hfired⟩ := limitOneRuns_closed r hr
  obtain ⟨hdiscards, hfiring⟩ := (quietRun_of_isChain (limitOneRuns_quiet r hr)).firing hlength rfl
  exact ⟨hdiscards, hfiring ▸ hfired⟩

/-- Settles O58: the firings from 0x2E lead from run to run. -/
theorem limitOneHangsFromState2E : Obligations.LimitOneHangsFromState2E := by
  intro s n hcfg hmask hstate hcnt hp hr
  refine hang_of_undefined hp ?_ hr
  rw [hcfg, hmask, hstate, hcnt]
  exact undefined_of_closed limitOne_closedUnderFiring (by decide)

/-! ### The mask 0

Under the mask 0 both trajectories of R241 (a) reach the cycle through 40 and 138, which ends in the guard. -/

theorem quietRun_1006_9232 : QuietRun Params.standard 0#32 33 1006#32 9232#32 :=
  quietRun_of_isChain (ws :=
    [503, 1510, 755, 2266, 1133, 3400, 1700, 850, 425, 1276, 638, 319, 958, 479, 1438, 719, 2158, 1079, 3238, 1619,
     4858, 2429, 7288, 3644, 1822, 911, 2734, 1367, 4102, 2051, 6154, 3077, 9232]) (by decide)

theorem quietRun_9232_40 : QuietRun Params.standard 0#32 26 9232#32 40#32 :=
  quietRun_of_isChain (ws :=
    [4616, 2308, 1154, 577, 1732, 866, 433, 1300, 650, 325, 976, 488, 244, 122, 61, 184, 92, 46, 23, 70, 35, 106, 53,
     160, 80, 40]) (by decide)

theorem quietRun_1006_40 : QuietRun Params.standard 0#32 59 1006#32 40#32 := quietRun_1006_9232.trans quietRun_9232_40

theorem quietRun_1139_2752 : QuietRun Params.standard 0#32 22 1139#32 2752#32 :=
  quietRun_of_isChain (ws :=
    [3418, 1709, 5128, 2564, 1282, 641, 1924, 962, 481, 1444, 722, 361, 1084, 542, 271, 814, 407, 1222, 611, 1834,
     917, 2752]) (by decide)

theorem quietRun_2752_40 : QuietRun Params.standard 0#32 27 2752#32 40#32 :=
  quietRun_of_isChain (ws :=
    [1376, 688, 344, 172, 86, 43, 130, 65, 196, 98, 49, 148, 74, 37, 112, 56, 28, 14, 7, 22, 11, 34, 17, 52, 26, 13,
     40]) (by decide)

theorem quietRun_1139_40 : QuietRun Params.standard 0#32 49 1139#32 40#32 := quietRun_1139_2752.trans quietRun_2752_40

theorem quietRun_40_5 : QuietRun Params.standard 0#32 3 40#32 5#32 :=
  quietRun_of_isChain (ws := [20, 10, 5]) (by decide)

theorem quietRun_5_138 : QuietRun Params.standard 0#32 5 5#32 138#32 :=
  quietRun_of_isChain (ws := [16, 8, 4, 2, 138]) (by decide)

theorem quietRun_138_40 : QuietRun Params.standard 0#32 7 138#32 40#32 :=
  quietRun_of_isChain (ws := [69, 208, 104, 52, 26, 13, 40]) (by decide)

/-- `k` rounds of the cycle of 15 steps. -/
theorem quietRun_40_40 (k : Nat) : QuietRun Params.standard 0#32 (15 * k) 40#32 40#32 :=
  ((quietRun_40_5.trans quietRun_5_138).trans quietRun_138_40).iterate k

/-- R241 (a): each firing comes after 2002 steps, and leads from 1006 to 138 + 1001 = 1139 and from 1139 to
5 + 1001 = 1006. -/
theorem maskZero_closedUnderFiring :
    ClosedUnderFiring Params.standard 0#32 (fun w => w = 1006#32 ∨ w = 1139#32) := by
  rintro _ (rfl | rfl)
  · obtain ⟨hdiscards, hfiring⟩ :=
      ((quietRun_1006_40.trans (quietRun_40_40 129)).trans (quietRun_40_5.trans quietRun_5_138)).firing rfl rfl
    exact ⟨hdiscards, .inr hfiring⟩
  · obtain ⟨hdiscards, hfiring⟩ :=
      ((quietRun_1139_40.trans (quietRun_40_40 130)).trans quietRun_40_5).firing rfl rfl
    exact ⟨hdiscards, .inl hfiring⟩

/-- Settles O59: the firings from 0x3EE = 1006 lead to 1139 and back. -/
theorem zeroMaskHangsFromState3EE : Obligations.ZeroMaskHangsFromState3EE := by
  intro s n hcfg hmask hstate hcnt hp hr
  refine hang_of_undefined hp ?_ hr
  rw [hcfg, hmask, hstate, hcnt]
  exact undefined_of_closed maskZero_closedUnderFiring (.inl rfl)

end Sys2Proof.Proofs.Hazards
